-- ==== Sys2Proof/Config.lean ====
section
/-! DEFINITION. What one CORE block fixes: its engines and the widths of their registers, output words and commands (spec 00_scope R1, R2, R5). The seeds and the shift counts are in Machine/Params.lean. -/

namespace Sys2Proof

/-- The two engines of a `CORE` block (R1): `XS128` is the source's `XorShift128Generator`, `XS128P` its
`XorShift128PlusGenerator`. `CORE` holds exactly one of each (R2). -/
inductive Engine where
  | xs128
  | xs128p
  deriving DecidableEq, Repr

/-- Width of an engine's registers and of its output word (R5). -/
def Config.wordWidth : Engine → Nat
  | .xs128 => 32
  | .xs128p => 64

/-- Number of an engine's registers (R5). -/
def Config.registerCount : Engine → Nat
  | .xs128 => 4
  | .xs128p => 2

/-- Width of a command word, the same for both engines (R5, R49, R50, R54). -/
def Config.commandWidth : Nat := 1

end Sys2Proof
end

