-- ==== Sys2Proof/Word.lean ====
section
/-! DEFINITION. The words of the machine and the wires of its input ports (spec 00_scope R6, 30_encoding R46, R49, R50). -/

namespace Sys2Proof

/-- A register or output word of `XS128`: 32 bits, unsigned, bit 0 least significant (R6, R13). -/
abbrev Word32 := BitVec 32

/-- A register or output word of `XS128P`: 64 bits, unsigned, bit 0 least significant (R6, R14). -/
abbrev Word64 := BitVec 64

/-- A command word, format `C32` or `C64`: the one bit `n` (R49, R50). -/
abbrev Command := BitVec 1

/-- What the host drives onto one engine's two input wires in one step (R46): `rst`, active high, and the
command bit `next`. -/
structure Pins where
  rst  : Bool
  next : Command
  deriving DecidableEq, Repr

/-- What the host drives onto all input wires of `CORE` in one step, one clock cycle (R46, R48). -/
structure CoreInputs where
  xs128  : Pins
  xs128p : Pins
  deriving DecidableEq, Repr

/-- No reset asserted and no call requested: `HOLD` (R48). -/
def Pins.idle : Pins := { rst := false, next := 0#1 }

/-- Neither engine reset, neither called. -/
def CoreInputs.idle : CoreInputs := { xs128 := .idle, xs128p := .idle }

/-- The wires of one engine. -/
def CoreInputs.pins (c : CoreInputs) : Engine → Pins
  | .xs128 => c.xs128
  | .xs128p => c.xs128p

end Sys2Proof
end

