-- ==== Sys2Proof/Syntax.lean ====
section
/-! DEFINITION. The operations of the two engines, one constructor per row of the opcode map (spec 30_encoding R52). -/

namespace Sys2Proof

/-- The four operations (R52). None has an operand (R51). Reset is no operation: no command word performs it. -/
inductive Instr where
  /-- `XS128.NEXT` (R61) -/
  | xs128Next
  /-- `XS128.HOLD` (R62) -/
  | xs128Hold
  /-- `XS128P.NEXT` (R76) -/
  | xs128pNext
  /-- `XS128P.HOLD` (R77) -/
  | xs128pHold
  deriving DecidableEq, Repr

/-- The engine that obeys an operation: the one whose port carries the command word (R50, R52). -/
def Instr.engine : Instr → Engine
  | .xs128Next => .xs128
  | .xs128Hold => .xs128
  | .xs128pNext => .xs128p
  | .xs128pHold => .xs128p

/-- How an operation is written (R52, R55). -/
def Instr.mnemonic : Instr → String
  | .xs128Next => "XS128.NEXT"
  | .xs128Hold => "XS128.HOLD"
  | .xs128pNext => "XS128P.NEXT"
  | .xs128pHold => "XS128P.HOLD"

end Sys2Proof
end

