-- ==== Sys2Proof/WellFormed.lean ====
section
/-! DEFINITION. Program notation (spec 30_encoding R55, R56) and what makes an operation, a column and a row well formed. -/

namespace Sys2Proof

/-- What stands in one step of one engine's column of a program: an operation, or the host action `RESET` in the place
of one (R55). -/
inductive ColumnItem where
  | reset
  | op (i : Instr)
  deriving DecidableEq, Repr

/-- One row of a `CORE` program, one step: the item of each engine (R55). -/
structure CoreRow where
  xs128  : ColumnItem
  xs128p : ColumnItem
  deriving DecidableEq, Repr

/-- The pseudo-instructions of a column, `NEXT*k` and `HOLD*k`, and `RESET` (R56). -/
inductive Pseudo where
  | reset
  | nextTimes (k : Nat)
  | holdTimes (k : Nat)
  deriving DecidableEq, Repr

/-- An operation is well formed on an engine's command port if it is that engine's: "a command word never reaches the
other engine" (R50). It has no operand that could be ill formed (R51). -/
def Instr.wfOn (e : Engine) (i : Instr) : Bool := decide (i.engine = e)

/-- `RESET` may stand in either column, an operation in its own engine's. -/
def ColumnItem.wfOn (e : Engine) : ColumnItem → Bool
  | .reset => true
  | .op i => i.wfOn e

/-- A program for one engine is a finite list of items of that engine (R55). -/
def wfColumn (e : Engine) (col : List ColumnItem) : Bool := col.all (·.wfOn e)

/-- A row of a `CORE` program gives each engine an item of its own. -/
def CoreRow.wf (r : CoreRow) : Bool := r.xs128.wfOn .xs128 && r.xs128p.wfOn .xs128p

/-- A `CORE` program is a list of rows, one per step. -/
def wfProgram (rows : List CoreRow) : Bool := rows.all (·.wf)

/-- The host's first duty: a run of an engine begins with a reset step of that engine (70_reset_and_hazards R129, R131). -/
def beginsWithReset : List ColumnItem → Bool
  | .reset :: _ => true
  | _ => false

end Sys2Proof
end

