-- ==== Sys2Proof/Decode.lean ====
section
/-! DEFINITION. The opcode map, the decoder and the encoder (spec 30_encoding R48 to R56). -/

namespace Sys2Proof

/-- One row of the opcode map (R52). `pattern` is the map's `match`. -/
structure OpcodeRow where
  instr   : Instr
  port    : Engine
  mask    : Command
  pattern : Command
  deriving DecidableEq, Repr

/-- The complete opcode map (R52). -/
def opcodeTable : List OpcodeRow :=
  [ { instr := .xs128Next,  port := .xs128,  mask := 0b1#1, pattern := 0b1#1 },
    { instr := .xs128Hold,  port := .xs128,  mask := 0b1#1, pattern := 0b0#1 },
    { instr := .xs128pNext, port := .xs128p, mask := 0b1#1, pattern := 0b1#1 },
    { instr := .xs128pHold, port := .xs128p, mask := 0b1#1, pattern := 0b0#1 } ]

/-- A row is selected by a command word on its own engine's port: `c AND mask = match` (R52). -/
def OpcodeRow.selects (e : Engine) (c : Command) (r : OpcodeRow) : Bool :=
  decide (r.port = e) && decide (c &&& r.mask = r.pattern)

/-- The decoder of an engine: `n` = 1 is `NEXT`, `n` = 0 is `HOLD` (R49, R50). Total: both values are legal
(R53, R58). -/
def decode (e : Engine) (c : Command) : Instr :=
  match e with
  | .xs128 => if c = 1#1 then .xs128Next else .xs128Hold
  | .xs128p => if c = 1#1 then .xs128pNext else .xs128pHold

/-- Why a number of bits is no command word of an engine. -/
inductive DecodeError where
  /-- fewer bits than the one bit of a command word -/
  | noBit
  /-- a bit above bit 0 is set: the one length is 1 bit (R54) -/
  | widerThanPort
  deriving DecidableEq, Repr

/-- Decodes `nbits` bits, given as a number, on an engine's port. Rejects by name what is no 1-bit command word. -/
def decodeBits (e : Engine) (nbits w : Nat) : Except DecodeError Instr :=
  if nbits < Config.commandWidth then .error .noBit
  else if w < 2 ^ Config.commandWidth then .ok (decode e (BitVec.ofNat 1 w))
  else .error .widerThanPort

/-- The word of an operation (R52), to be put on the port of `i.engine`. -/
def encode : Instr → Command
  | .xs128Next => 1#1
  | .xs128Hold => 0#1
  | .xs128pNext => 1#1
  | .xs128pHold => 0#1

/-- The port on which the host's bare table words are read. The two engines' rows have equal bit patterns and are told
apart by the port alone (R50, R52), and a bare word names no port.
DESIGN CHOICE, notes/assumptions/7: the port is `xs128_next`. -/
def tablePort : Engine := .xs128

/-- The instruction the decoder reads from a bare word of the table. DESIGN CHOICE, notes/assumptions/7. -/
def decodeTableWord (nbits w : Nat) : Option Instr :=
  match decodeBits tablePort nbits w with
  | .ok i => some i
  | .error _ => none

/-- What an engine does in a step, chosen by its own two input wires and nothing else: reset first, then `NEXT`, else
`HOLD` (R48, 60_exceptions R109). -/
def decodePins (e : Engine) (p : Pins) : ColumnItem :=
  if p.rst then .reset else .op (decode e p.next)

/-- The wires of a program's item (R55). DESIGN CHOICE, notes/assumptions/12: the ignored command bit of a `RESET` step
is written 0. -/
def encodeItem : ColumnItem → Pins
  | .reset => { rst := true, next := 0#1 }
  | .op i => { rst := false, next := encode i }

/-- A program for one engine encodes as the string of its command bits in step order, with the reset wire beside it
(R55). -/
def encodeColumn (col : List ColumnItem) : List Pins := col.map encodeItem

def decodeColumn (e : Engine) (ps : List Pins) : List ColumnItem := ps.map (decodePins e)

def encodeRow (r : CoreRow) : CoreInputs := { xs128 := encodeItem r.xs128, xs128p := encodeItem r.xs128p }

def decodeRow (c : CoreInputs) : CoreRow := { xs128 := decodePins .xs128 c.xs128, xs128p := decodePins .xs128p c.xs128p }

/-- A `CORE` program encodes as the bit strings of its columns (R55). -/
def encodeProgram (rows : List CoreRow) : List CoreInputs := rows.map encodeRow

def decodeProgram (cs : List CoreInputs) : List CoreRow := cs.map decodeRow

/-- The operation `NEXT` of an engine. -/
def Engine.nextInstr : Engine → Instr
  | .xs128 => .xs128Next
  | .xs128p => .xs128pNext

/-- The operation `HOLD` of an engine. -/
def Engine.holdInstr : Engine → Instr
  | .xs128 => .xs128Hold
  | .xs128p => .xs128pHold

/-- `NEXT*k` stands for `k` consecutive `NEXT`s of the engine, `HOLD*k` for `k` `HOLD`s; `k` = 0 is the empty list
(R56). -/
def Pseudo.expand (e : Engine) : Pseudo → List ColumnItem
  | .reset => [.reset]
  | .nextTimes k => List.replicate k (.op e.nextInstr)
  | .holdTimes k => List.replicate k (.op e.holdInstr)

/-- An engine's program written with pseudo-instructions, for example the driver's `RESET, NEXT*250`. -/
def expandColumn (e : Engine) (ps : List Pseudo) : List ColumnItem := ps.flatMap (Pseudo.expand e)

/-- Is the operation a call (`NEXT`)? -/
def Instr.isNext : Instr → Bool
  | .xs128Next => true
  | .xs128Hold => false
  | .xs128pNext => true
  | .xs128pHold => false

/-- The wires request `NEXT`: no reset, command bit 1 (R48). -/
def Pins.isNext (p : Pins) : Bool := !p.rst && decide (p.next = 1#1)

/-- The wires request `HOLD`: no reset, command bit 0 (R48). -/
def Pins.isHold (p : Pins) : Bool := !p.rst && decide (p.next = 0#1)

end Sys2Proof
end

