-- ==== Sys2Proof/Machine/Params.lean ====
section
/-! DEFINITION. The constants of the logic: seeds and shift counts (spec 00_scope R5, 10_state R15, R16, R21). -/

namespace Sys2Proof.Machine

/-- Seed of `XS128.x` (R15). -/
def seedX : Word32 := 123456789
/-- Seed of `XS128.y` (R15). -/
def seedY : Word32 := 362436069
/-- Seed of `XS128.z` (R15). -/
def seedZ : Word32 := 521288629
/-- Seed of `XS128.w` (R15). -/
def seedW : Word32 := 88675123

/-- Seed of `XS128P.s0` (R16). -/
def seedS0 : Word64 := 743057230457
/-- Seed of `XS128P.s1` (R16). -/
def seedS1 : Word64 := 4055030262322907474

/-- `XS128`: left shift of `x` (R5). -/
def xs128ShiftX : Nat := 11
/-- `XS128`: right shift of `w` (R5). -/
def xs128ShiftW : Nat := 19
/-- `XS128`: right shift of `t` (R5). -/
def xs128ShiftT : Nat := 8

/-- `XS128P`: left shift of `s0` (R5). -/
def xs128pShiftS0 : Nat := 23
/-- `XS128P`: right shift of `x1` (R5). -/
def xs128pShiftX1 : Nat := 18
/-- `XS128P`: right shift of `s1` (R5). -/
def xs128pShiftS1 : Nat := 5

end Sys2Proof.Machine
end

