-- ==== Sys2Proof/Machine/State.lean ====
section
/-! DEFINITION. The state of CORE (spec 10_state), the reasons a step can stop, and the state after reset. -/

namespace Sys2Proof.Machine

/-- The four registers of `XS128` (10_state R13): `r[0]` = `x` to `r[3]` = `w`. Every value is legal (R27). -/
@[ext]
structure Xs128Regs where
  x : Word32
  y : Word32
  z : Word32
  w : Word32
  deriving DecidableEq, Repr

/-- The two registers of `XS128P` (10_state R14), an ordered pair. Every value is legal (R27). -/
@[ext]
structure Xs128pRegs where
  s0 : Word64
  s1 : Word64
  deriving DecidableEq, Repr

/-- A constructed `XS128` engine. `regs` is the whole of what the spec gives it (R18); the other fields are the MODEL's own
record of the engine's boundary, and no later register value depends on them. -/
@[ext]
structure Xs128 where
  regs     : Xs128Regs
  /-- the output ports in the step just performed (30_encoding R57): `some v` is `out_valid` = 1 with `v` on `out`,
  `none` is `out_valid` = 0; notes/assumptions/3 -/
  out      : Option Word32
  /-- the words returned in this run, oldest first, the observation of a run (R132); notes/assumptions/4 -/
  returned : List Word32
  deriving DecidableEq, Repr

/-- A constructed `XS128P` engine; the fields are as in `Xs128`. -/
@[ext]
structure Xs128p where
  regs     : Xs128pRegs
  out      : Option Word64
  returned : List Word64
  deriving DecidableEq, Repr

/-- Where an engine stands in its life (10_state R28, 70_reset_and_hazards R129). Its registers come into being at its
first reset; before that they hold no defined value, so there is none to hold here. -/
inductive Lifecycle (α : Type) where
  /-- before the first reset, and not called yet: the engine's run has not begun -/
  | unstarted
  /-- the run has begun with a reset, and the engine is `e` -/
  | started (e : α)
  /-- called before its first reset: the engine's run is refused, for good; notes/assumptions/5 -/
  | refused
  deriving DecidableEq, Repr

/-- The state of one `CORE` block and of its host. There is no program counter, flag, control register, memory, queue or
counter (10_state R18 to R22). -/
@[ext]
structure State where
  xs128   : Lifecycle Xs128
  xs128p  : Lifecycle Xs128p
  /-- what the host is going to drive onto the input wires, one entry per step, next step first: an input of the machine
  (R19, R23), here because a step reads nothing but a state; notes/assumptions/1 -/
  pending : List CoreInputs
  deriving DecidableEq, Repr

/-- No operation can raise anything: the set of exceptions is empty (60_exceptions R106). -/
inductive Fault where
  deriving DecidableEq, Repr

/-- Why a step is refused. -/
inductive Refusal where
  /-- `exec`, for an operation that has no meaning yet; no arm raises it. Safe: the machine stops. -/
  | notModelled (mnemonic : String)
  /-- A meaning, for an operation of an engine that has had no reset: the spec "gives no meaning to any operation performed
  then" (70_reset_and_hazards R129). Safe: the machine stops. -/
  | beforeFirstReset (engine : Engine)
  /-- `cycle`, for a step after which no engine has a run: a run begins with a reset, and a model refuses one that does
  not (R129). Safe: the machine stops. -/
  | noRunBegun
  deriving DecidableEq, Repr

/-- The seed state of `XS128` (R15). -/
def Xs128Regs.seed : Xs128Regs := { x := seedX, y := seedY, z := seedZ, w := seedW }

/-- The seed state of `XS128P` (R16). -/
def Xs128pRegs.seed : Xs128pRegs := { s0 := seedS0, s1 := seedS1 }

/-- An `XS128` engine just constructed: at the seed, nothing returned (R126). -/
def Xs128.fresh : Xs128 := { regs := .seed, out := none, returned := [] }

/-- An `XS128P` engine just constructed. -/
def Xs128p.fresh : Xs128p := { regs := .seed, out := none, returned := [] }

/-- Right after reset: both engines at their seed (R15, R16, R126, R129), nothing returned, no host input placed. -/
def State.reset : State := { xs128 := .started .fresh, xs128p := .started .fresh, pending := [] }

end Sys2Proof.Machine
end

