-- ==== Sys2Proof/Machine/Ops.lean ====
section
/-! DEFINITION. The shared operations: the arithmetic of spec 00_scope R7, the advance of each engine (R61, R76), what one
action does to an engine and its ports, and taking the host's input. -/

namespace Sys2Proof.Machine

/-- `shl_N(v, k)` = `(v * 2^k) mod 2^N` (R7): truncated to the width before anything else uses it (R134). -/
def shlW {n : Nat} (v : BitVec n) (k : Nat) : BitVec n := v <<< k

/-- `lshr_N(v, k)` = `floor(v / 2^k)` (R7): zeros enter at the top (R135). -/
def lshrW {n : Nat} (v : BitVec n) (k : Nat) : BitVec n := v >>> k

/-- `add_N(a, b)` = `(a + b) mod 2^N` (R7): the carry out is lost (R136). -/
def addW {n : Nat} (a b : BitVec n) : BitVec n := a + b

/-- `xor(a, b)` (R7). -/
def xorW {n : Nat} (a b : BitVec n) : BitVec n := a ^^^ b

/-- The word `w1` of `XS128.NEXT`, from the pre-state `x` and `w` (R61). -/
def xs128Word (x w : Word32) : Word32 :=
  let a := shlW x xs128ShiftX
  let t := xorW x a
  let b := lshrW w xs128ShiftW
  let c := lshrW t xs128ShiftT
  xorW (xorW w b) (xorW t c)

/-- The post-state of `XS128.NEXT`, all four writes at once from pre-state values (R61, R133). -/
def Xs128Regs.advance (r : Xs128Regs) : Xs128Regs :=
  { x := r.y, y := r.z, z := r.w, w := xs128Word r.x r.w }

/-- The word `XS128.NEXT` returns: the post-state `w` (R61, R137). -/
def Xs128Regs.output (r : Xs128Regs) : Word32 := r.advance.w

/-- The word `n1` of `XS128P.NEXT`, from the pre-state `s0` and `s1` (R76). -/
def xs128pWord (s0 s1 : Word64) : Word64 :=
  let a := shlW s0 xs128pShiftS0
  let x1 := xorW s0 a
  let b := lshrW x1 xs128pShiftX1
  let c := lshrW s1 xs128pShiftS1
  xorW (xorW (xorW x1 s1) b) c

/-- The post-state of `XS128P.NEXT`, both writes at once from pre-state values (R76, R133). -/
def Xs128pRegs.advance (r : Xs128pRegs) : Xs128pRegs :=
  { s0 := r.s1, s1 := xs128pWord r.s0 r.s1 }

/-- The word `XS128P.NEXT` returns: the sum of the post-state pair (R76, R137). -/
def Xs128pRegs.output (r : Xs128pRegs) : Word64 := addW r.advance.s0 r.advance.s1

/-- `XS128` performs `NEXT`: the registers advance, and the word is on `out` with `out_valid` = 1 (R57, R61). -/
def Xs128.next (e : Xs128) : Xs128 :=
  { e with regs := e.regs.advance, out := some e.regs.output, returned := e.returned ++ [e.regs.output] }

/-- `XS128` performs `HOLD`: nothing is read, written or returned (R62), and `out_valid` is 0 (R57). -/
def Xs128.hold (e : Xs128) : Xs128 := { e with out := none }

/-- A further reset of a running `XS128`: the seed, whatever came before, and nothing returned (R126, R128). -/
def Xs128.construct (e : Xs128) : Xs128 := { e with regs := .seed, out := none }

/-- `XS128P` performs `NEXT` (R57, R76). -/
def Xs128p.next (e : Xs128p) : Xs128p :=
  { e with regs := e.regs.advance, out := some e.regs.output, returned := e.returned ++ [e.regs.output] }

/-- `XS128P` performs `HOLD` (R57, R77). -/
def Xs128p.hold (e : Xs128p) : Xs128p := { e with out := none }

/-- A further reset of a running `XS128P` (R126, R128). -/
def Xs128p.construct (e : Xs128p) : Xs128p := { e with regs := .seed, out := none }

/-- The wire `xs128_out_valid` in the step just performed (R57). -/
def Xs128.outValid (e : Xs128) : Bool := e.out.isSome

/-- The wire `xs128p_out_valid` in the step just performed (R57). -/
def Xs128p.outValid (e : Xs128p) : Bool := e.out.isSome

/-- Has the engine's run begun? -/
def Lifecycle.isStarted {α : Type} : Lifecycle α → Bool
  | .unstarted => false
  | .started _ => true
  | .refused => false

/-- Does the engine have a run in a step with this reset wire? It has one if its run has begun, or begins in this step
with the engine's first reset (R129). -/
def Lifecycle.hasRun {α : Type} (l : Lifecycle α) (rst : Bool) : Bool :=
  match l with
  | .unstarted => rst
  | .started _ => true
  | .refused => false

/-- A reset begins the run of an engine that has had none, and constructs a running engine anew (R126, R128). A refused
run stays refused (R129); notes/assumptions/5. -/
def Lifecycle.construct {α : Type} (fresh : α) (again : α → α) : Lifecycle α → Lifecycle α
  | .unstarted => .started fresh
  | .started e => .started (again e)
  | .refused => .refused

/-- The run of an engine called before its first reset is refused (R129). A run that has begun is not touched. -/
def Lifecycle.refuse {α : Type} : Lifecycle α → Lifecycle α
  | .unstarted => .refused
  | .started e => .started e
  | .refused => .refused

def State.setXs128 (s : State) (l : Lifecycle Xs128) : State := { s with xs128 := l }

def State.setXs128p (s : State) (l : Lifecycle Xs128p) : State := { s with xs128p := l }

/-- Has the engine's run begun with its first reset? (R129) -/
def State.isStarted (s : State) : Engine → Bool
  | .xs128 => s.xs128.isStarted
  | .xs128p => s.xs128p.isStarted

/-- What an operation does to a running `XS128`. Before the first reset no operation has a meaning (R129). -/
def State.onXs128 (s : State) (f : Xs128 → Xs128) : Host.Outcome State Fault Refusal :=
  match s.xs128 with
  | .started e => .next (s.setXs128 (.started (f e)))
  | .unstarted => .refused (.beforeFirstReset .xs128)
  | .refused => .refused (.beforeFirstReset .xs128)

/-- What an operation does to a running `XS128P`. -/
def State.onXs128p (s : State) (f : Xs128p → Xs128p) : Host.Outcome State Fault Refusal :=
  match s.xs128p with
  | .started e => .next (s.setXs128p (.started (f e)))
  | .unstarted => .refused (.beforeFirstReset .xs128p)
  | .refused => .refused (.beforeFirstReset .xs128p)

/-- The host action `RESET` on one engine; the other is untouched (R126, R127). -/
def State.resetEngine (s : State) : Engine → State
  | .xs128 => s.setXs128 (s.xs128.construct .fresh Xs128.construct)
  | .xs128p => s.setXs128p (s.xs128p.construct .fresh Xs128p.construct)

/-- The run of one engine is refused; the other is untouched (R129, 45_sequence_laws R98). -/
def State.refuseRun (s : State) : Engine → State
  | .xs128 => s.setXs128 s.xs128.refuse
  | .xs128p => s.setXs128p s.xs128p.refuse

/-- What the input wires carry in the next step. DESIGN CHOICE, notes/assumptions/2: a host that has nothing more to say
asserts no reset and makes no call, and "a stretch of time in which no call is made" is `HOLD` (R52). -/
def State.fetchInputs (s : State) : CoreInputs := s.pending.head?.getD .idle

/-- The state once the wires of the next step have been read. -/
def State.popInputs (s : State) : State := { s with pending := s.pending.tail }

/-- The same state with a command word on one engine's port in the next step, that engine not reset, and the other engine
idle. -/
def State.withCommand (s : State) (e : Engine) (c : Command) : State :=
  let p : Pins := { rst := false, next := c }
  match e with
  | .xs128 => { s with pending := { xs128 := p, xs128p := .idle } :: s.pending.tail }
  | .xs128p => { s with pending := { xs128 := .idle, xs128p := p } :: s.pending.tail }

/-- A block before any reset: no register of it holds a defined value, and the model picks none (R129, U2 of
93_implementation_defined). -/
def State.beforeReset (inputs : List CoreInputs) : State :=
  { xs128 := .unstarted, xs128p := .unstarted, pending := inputs }

end Sys2Proof.Machine
end

