-- ==== Sys2Proof/Machine/Xs128.lean ====
section
/-! DEFINITION. The operations of the XS128 engine (spec 40_xorshift128). -/

namespace Sys2Proof.Machine

/-- `XS128.NEXT` (R61): advance one step and return one 32-bit word. Defined on all 2^128 values of the
registers, the all-zero one included (R27, R139). -/
def execXs128Next (s : State) : Host.Outcome State Fault Refusal := s.onXs128 Xs128.next

/-- `XS128.HOLD` (R62): do nothing for one step. -/
def execXs128Hold (s : State) : Host.Outcome State Fault Refusal := s.onXs128 Xs128.hold

end Sys2Proof.Machine
end

