-- ==== Sys2Proof/Machine/Xs128p.lean ====
section
/-! DEFINITION. The operations of the XS128P engine (spec 41_xorshift128plus). -/

namespace Sys2Proof.Machine

/-- `XS128P.NEXT` (R76): advance one step and return one 64-bit word. Defined on all 2^128 values of the
registers, the all-zero one included (R27, R139). -/
def execXs128pNext (s : State) : Host.Outcome State Fault Refusal := s.onXs128p Xs128p.next

/-- `XS128P.HOLD` (R77): do nothing for one step. -/
def execXs128pHold (s : State) : Host.Outcome State Fault Refusal := s.onXs128p Xs128p.hold

end Sys2Proof.Machine
end

