-- ==== Sys2Proof/Machine/Dispatch.lean ====
section
/-! DEFINITION. One arm per operation (spec 30_encoding R52). -/

namespace Sys2Proof.Machine

def exec (i : Instr) (s : State) : Host.Outcome State Fault Refusal :=
  match i with
  | .xs128Next => Sys2Proof.Machine.execXs128Next s
  | .xs128Hold => Sys2Proof.Machine.execXs128Hold s
  | .xs128pNext => Sys2Proof.Machine.execXs128pNext s
  | .xs128pHold => Sys2Proof.Machine.execXs128pHold s

end Sys2Proof.Machine
end

