-- ==== Sys2Proof/Machine/Cycle.lean ====
section
/-! DEFINITION. One step of CORE for given input wires (spec 30_encoding R48): each engine does the one thing its own wires select. -/

namespace Sys2Proof.Machine

/-- One engine's part of a step. An engine that has had no reset performs no operation (70_reset_and_hazards R129): called,
its run is refused, and the other engine's is not (45_sequence_laws R98). DESIGN CHOICE, notes/assumptions/6: with its
command bit at 0 it waits, since the engines "may be reset in either order" (R130). -/
def perform (e : Engine) (p : Pins) (s : State) : Host.Outcome State Fault Refusal :=
  match decodePins e p with
  | .reset => .next (s.resetEngine e)
  | .op i =>
    if s.isStarted e then exec i s
    else if i.isNext then .next (s.refuseRun e)
    else .next s

/-- One step: both engines act, each on its own wires (R48). They share nothing, so the order in which they are written
here cannot be seen (20_memory R38); notes/assumptions/11. A step that leaves no engine with a run that began with a reset
is refused (R129): there is nothing left that the spec gives a meaning. -/
def cycle (c : CoreInputs) (s : State) : Host.Outcome State Fault Refusal :=
  match perform .xs128 c.xs128 s with
  | .fault r => .fault r
  | .refused r => .refused r
  | .next m =>
    match perform .xs128p c.xs128p m with
    | .fault r => .fault r
    | .refused r => .refused r
    | .next t => if t.isStarted .xs128 || t.isStarted .xs128p then .next t else .refused .noRunBegun

end Sys2Proof.Machine
end

