-- ==== Sys2Proof/Machine/Step.lean ====
section
/-! DEFINITION. One step of the machine, one clock cycle (spec 30_encoding R48). -/

namespace Sys2Proof.Machine

/-- Read the input wires of this cycle and perform it. -/
def step (s : State) : Host.Outcome State Fault Refusal := cycle s.fetchInputs s.popInputs

/-- The table's word on the command port in the next step; `XS128P` idle. DESIGN CHOICE, notes/assumptions/7 and 8. -/
def State.withFetchWord (s : State) (_nbits w : Nat) : State := s.withCommand tablePort (BitVec.ofNat 1 w)

end Sys2Proof.Machine
end

