-- ==== Sys2Proof/Machine/Flags.lean ====
section
/-! DEFINITION. There are no flags (spec 10_state R20). The one carry the arithmetic produces, out of bit 63 of the output sum of XS128P.NEXT, is discarded: it is named here for statements, and nothing in the machine reads or holds it. -/

namespace Sys2Proof.Machine

/-- The carry out of bit 63 of `add_64(a, b)`: the exact sum does not fit in 64 bits. -/
def carryOut (a b : Word64) : Bool := decide (2 ^ 64 ≤ a.toNat + b.toNat)

/-- The carry `XS128P.NEXT` discards, that of the post-state pair's sum (R76). -/
def Xs128pRegs.lostCarry (r : Xs128pRegs) : Bool := carryOut r.advance.s0 r.advance.s1

end Sys2Proof.Machine
end

