-- ==== Sys2Proof/Machine/Operands.lean ====
section
/-! DEFINITION. No operation has an operand (spec 30_encoding R51): the registers it reads and writes are fixed by the operation. Here are the registers by index, the one other way the spec names them (00_scope R8, 10_state R13, R14). -/

namespace Sys2Proof.Machine

/-- `XS128.r[i]` (R8, R13). -/
def Xs128Regs.r (g : Xs128Regs) : Fin 4 → Word32
  | 0 => g.x
  | 1 => g.y
  | 2 => g.z
  | 3 => g.w

/-- `XS128P.s[i]` (R8, R14). -/
def Xs128pRegs.s (g : Xs128pRegs) : Fin 2 → Word64
  | 0 => g.s0
  | 1 => g.s1

end Sys2Proof.Machine
end

