-- ==== Sys2Proof/Machine/Inverse.lean ====
section
/-! DEFINITION. The inverse of each engine's state map (spec 40_xorshift128 R64, 41_xorshift128plus R79), for statements: no operation runs an engine backwards. -/

namespace Sys2Proof.Machine

/-- The state before a state of `XS128` (R64). -/
def Xs128Regs.retreat (r : Xs128Regs) : Xs128Regs :=
  let y := r.x
  let z := r.y
  let w := r.z
  let u := xorW (xorW r.w w) (lshrW w 19)
  let t := xorW (xorW (xorW u (lshrW u 8)) (lshrW u 16)) (lshrW u 24)
  let x := xorW (xorW t (shlW t 11)) (shlW t 22)
  { x := x, y := y, z := z, w := w }

/-- The state before a state of `XS128P` (R79). -/
def Xs128pRegs.retreat (r : Xs128pRegs) : Xs128pRegs :=
  let s1 := r.s0
  let v := xorW (xorW r.s1 s1) (lshrW s1 5)
  let x1 := xorW (xorW (xorW v (lshrW v 18)) (lshrW v 36)) (lshrW v 54)
  let s0 := xorW (xorW x1 (shlW x1 23)) (shlW x1 46)
  { s0 := s0, s1 := s1 }

/-- `xor` of two states, register by register (R65). -/
def Xs128Regs.xorWith (a b : Xs128Regs) : Xs128Regs :=
  { x := xorW a.x b.x, y := xorW a.y b.y, z := xorW a.z b.z, w := xorW a.w b.w }

/-- `xor` of two states, register by register (R65, R80). -/
def Xs128pRegs.xorWith (a b : Xs128pRegs) : Xs128pRegs :=
  { s0 := xorW a.s0 b.s0, s1 := xorW a.s1 b.s1 }

/-- The all-zero state of `XS128` (10_state R24). -/
def Xs128Regs.zero : Xs128Regs := { x := 0, y := 0, z := 0, w := 0 }

/-- The all-zero state of `XS128P` (10_state R25). -/
def Xs128pRegs.zero : Xs128pRegs := { s0 := 0, s1 := 0 }

end Sys2Proof.Machine
end

