-- ==== Sys2Proof/Machine/Sequence.lean ====
section
/-! DEFINITION. What the spec says of sequences of steps (spec 45_sequence_laws, 40_xorshift128 R63, 41_xorshift128plus R78), as pure functions of one engine's registers and one engine's wires, for statements to compare the machine with. -/

namespace Sys2Proof.Machine

/-- The registers of `XS128` after reset and `k` `NEXT`s. -/
def xs128After : Nat → Xs128Regs
  | 0 => .seed
  | k + 1 => (xs128After k).advance

/-- `o(k + 1)` of `XS128` (R100): the word the `(k+1)`-th `NEXT` after a reset returns. -/
def xs128Output (k : Nat) : Word32 := (xs128After k).output

/-- The registers of `XS128P` after reset and `k` `NEXT`s. -/
def xs128pAfter : Nat → Xs128pRegs
  | 0 => .seed
  | k + 1 => (xs128pAfter k).advance

/-- `o(k + 1)` of `XS128P` (R100). -/
def xs128pOutput (k : Nat) : Word64 := (xs128pAfter k).output

/-- A stand-alone `XS128` engine on its own wires, step by step: its final registers and the words it returns (R48, R98). -/
def xs128Column : List Pins → Xs128Regs → Xs128Regs × List Word32
  | [], r => (r, [])
  | p :: ps, r =>
    if p.rst then xs128Column ps .seed
    else if p.next = 1#1 then ((xs128Column ps r.advance).1, r.output :: (xs128Column ps r.advance).2)
    else xs128Column ps r

/-- A stand-alone `XS128P` engine on its own wires (R48, R98). -/
def xs128pColumn : List Pins → Xs128pRegs → Xs128pRegs × List Word64
  | [], r => (r, [])
  | p :: ps, r =>
    if p.rst then xs128pColumn ps .seed
    else if p.next = 1#1 then ((xs128pColumn ps r.advance).1, r.output :: (xs128pColumn ps r.advance).2)
    else xs128pColumn ps r

/-- What one engine's wires carry over a list of steps. -/
def column (e : Engine) (cs : List CoreInputs) : List Pins := cs.map (·.pins e)

/-- A column without its `HOLD` steps (R97). -/
def withoutHolds (ps : List Pins) : List Pins := ps.filter (fun p => !p.isHold)

/-- How many `NEXT`s a column requests. -/
def nextCount (ps : List Pins) : Nat := ps.countP Pins.isNext

end Sys2Proof.Machine
end

