-- ==== Sys2Proof/Safety.lean ====
section
/-! DEFINITION. What a good state is, in the terms the statements use. -/

namespace Sys2Proof.Machine

/-- Both engines' runs have begun: the host has done its one duty (70_reset_and_hazards R129, R130). -/
abbrev State.Running (s : State) : Prop := s.isStarted .xs128 = true ∧ s.isStarted .xs128p = true

/-- The host keeps its duty to the letter in the next step: each engine's run has begun, or begins with the engine's first
reset, so that no engine performs an operation before its first reset (R129, R131). -/
abbrev State.Ready (s : State) : Prop :=
  s.xs128.hasRun s.fetchInputs.xs128.rst = true ∧ s.xs128p.hasRun s.fetchInputs.xs128p.rst = true

/-- The words an engine has returned in its run: none if the run has not begun. -/
def State.words128 (s : State) : List Word32 :=
  match s.xs128 with
  | .started e => e.returned
  | .unstarted => []
  | .refused => []

/-- The words an engine has returned in its run: none if the run has not begun. -/
def State.words128p (s : State) : List Word64 :=
  match s.xs128p with
  | .started e => e.returned
  | .unstarted => []
  | .refused => []

/-- The invariant of a running `XS128`: never all zero (R94); while `out_valid` is 1, `out` is the newest word returned and
equals the register `w` (R57, R61). -/
structure Xs128.Inv (e : Xs128) : Prop where
  nonzero  : e.regs ≠ .zero
  out_last : ∀ v, e.out = some v → e.returned.getLast? = some v
  out_w    : ∀ v, e.out = some v → e.regs.w = v

/-- The invariant of a running `XS128P`: as for `XS128`, and `out` is the sum of the two registers as they are after the
update (R137). -/
structure Xs128p.Inv (e : Xs128p) : Prop where
  nonzero  : e.regs ≠ .zero
  out_last : ∀ v, e.out = some v → e.returned.getLast? = some v
  out_sum  : ∀ v, e.out = some v → e.regs.s0 + e.regs.s1 = v

/-- The invariant of the machine: that of each engine whose run has begun. -/
structure State.Inv (s : State) : Prop where
  xs128  : ∀ e, s.xs128 = .started e → e.Inv
  xs128p : ∀ e, s.xs128p = .started e → e.Inv

/-- `n` steps of the machine, stopping at the first refusal. -/
def runSteps : Nat → State → Host.Outcome State Fault Refusal
  | 0, s => .next s
  | n + 1, s =>
    match step s with
    | .next t => runSteps n t
    | .fault r => .fault r
    | .refused r => .refused r

end Sys2Proof.Machine
end

