-- ==== Sys2Proof/Certificates/Slice0/Obligations.lean ====
section
/-! DEFINITION. The statements about CORE, in the order of OBLIGATIONS.json. No instruction touches a memory, a flag or a special register, because there is none (R20, R21, R31): a frame here is about the other engine, the host's inputs and the observation. -/

open Sys2Proof Sys2Proof.Machine

/-! ### Encoding -/

/-- R52: the map has these four rows with these ports, masks and matches, every operation is in it, and an engine's
decoder gives the operation of the one row that its command word selects. -/
def Obligations.OpcodeMapSelectsOneRow : Prop :=
  (opcodeTable.map (fun r => (r.instr.mnemonic, r.port, r.mask, r.pattern)) =
    [("XS128.NEXT", Engine.xs128, 0b1#1, 0b1#1), ("XS128.HOLD", Engine.xs128, 0b1#1, 0b0#1),
     ("XS128P.NEXT", Engine.xs128p, 0b1#1, 0b1#1), ("XS128P.HOLD", Engine.xs128p, 0b1#1, 0b0#1)]) ∧
  (∀ i : Instr, i ∈ opcodeTable.map (·.instr)) ∧
  (∀ (e : Engine) (c : Command), (opcodeTable.filter (·.selects e c)).map (·.instr) = [decode e c])

/-- The words written out from the formats `C32` and `C64`: bit 0 is `n`, 1 for `NEXT`, 0 for `HOLD`. On either port a
number of no bits, and every number with a bit above bit 0, is rejected by name, and 0 and 1 given as any number of bits
are the two words (the model's choice, notes/assumptions/10). -/
def Obligations.SpecWordsDecode : Prop :=
  decode .xs128 0b1#1 = .xs128Next ∧ decode .xs128 0b0#1 = .xs128Hold ∧
  decode .xs128p 0b1#1 = .xs128pNext ∧ decode .xs128p 0b0#1 = .xs128pHold ∧
  (∀ (e : Engine) (w : Nat), decodeBits e 0 w = .error .noBit) ∧
  (∀ (e : Engine) (nbits w : Nat), 0 < nbits → 2 ≤ w → decodeBits e nbits w = .error .widerThanPort) ∧
  (∀ (e : Engine) (nbits : Nat), 0 < nbits →
    decodeBits e nbits 0 = .ok (decode e 0#1) ∧ decodeBits e nbits 1 = .ok (decode e 1#1))

/-- R53, R58: each of the two values of each command word selects an operation of the engine that decodes it, and that
operation is defined on every state of the engine. (An engine has a state once its run has begun, R28, R129.) -/
def Obligations.EveryCommandWordRuns : Prop :=
  ∀ (e : Engine) (c : Command), (decode e c).engine = e ∧
    ∀ s : State, s.isStarted e = true → ∃ t, exec (decode e c) s = .next t

/-- Decoder and encoder agree in both directions, on every operation and on every word of every port. -/
def Obligations.DecodeEncodeCommands : Prop :=
  (∀ i : Instr, decode i.engine (encode i) = i) ∧
  (∀ (e : Engine) (c : Command), (decode e c).engine = e ∧ encode (decode e c) = c)

/-- R55, and headline (a): a well-formed `CORE` program of any length, resets included, comes back from its wires, every
stretch of wires is some well-formed program, and an engine's column encodes item by item. -/
def Obligations.ProgramsComeBackFromTheWires : Prop :=
  (∀ rows : List CoreRow, wfProgram rows = true → decodeProgram (encodeProgram rows) = rows) ∧
  (∀ cs : List CoreInputs, wfProgram (decodeProgram cs) = true) ∧
  (∀ (e : Engine) (col : List ColumnItem), wfColumn e col = true → decodeColumn e (encodeColumn col) = col) ∧
  (∀ rows : List CoreRow, (encodeProgram rows).map (·.xs128) = encodeColumn (rows.map (·.xs128)) ∧
    (encodeProgram rows).map (·.xs128p) = encodeColumn (rows.map (·.xs128p)))

/-- R56: `NEXT*k` is `k` ones, `HOLD*k` is `k` zeros, `k` = 0 is the empty list, and the driver's loop is
`RESET, NEXT*250`: a step with the reset wire at 1, whatever its command bit, and 250 ones. -/
def Obligations.PseudoInstructionsEncode : Prop :=
  (∀ (e : Engine) (k : Nat),
    encodeColumn (Pseudo.expand e (.nextTimes k)) = List.replicate k { rst := false, next := 1#1 } ∧
    encodeColumn (Pseudo.expand e (.holdTimes k)) = List.replicate k { rst := false, next := 0#1 } ∧
    Pseudo.expand e (.nextTimes k) = List.replicate k (.op (decode e 1#1)) ∧
    Pseudo.expand e (.holdTimes k) = List.replicate k (.op (decode e 0#1))) ∧
  (∀ e : Engine, Pseudo.expand e (.nextTimes 0) = [] ∧ Pseudo.expand e (.holdTimes 0) = []) ∧
  (∀ e : Engine, expandColumn e [.reset, .nextTimes 250] = .reset :: List.replicate 250 (.op (decode e 1#1)) ∧
    ∃ n : Command, encodeColumn (expandColumn e [.reset, .nextTimes 250]) =
      { rst := true, next := n } :: List.replicate 250 { rst := false, next := 1#1 })

/-! ### A step -/

/-- R48: in a step each engine performs the one thing its own wires select, reset first, then the operation its command
bit decodes to, and the step completes. (`Ready`: each engine's run has begun, or begins in this step with the engine's
first reset, so that no operation is performed before it, R129.) -/
def Obligations.StepPerformsWhatTheWiresSelect : Prop :=
  ∀ (s : State) (c : CoreInputs) (rest : List CoreInputs), s.Ready → s.pending = c :: rest →
    ∃ m t, (if c.xs128.rst then m = ({ s with pending := rest } : State).resetEngine .xs128
            else exec (decode .xs128 c.xs128.next) { s with pending := rest } = .next m) ∧
           (if c.xs128p.rst then t = m.resetEngine .xs128p
            else exec (decode .xs128p c.xs128p.next) m = .next t) ∧
           step s = .next t

/-- A command word placed on an engine's port is the operation the very next step runs, beside the other engine's
`HOLD`. (`State.withCommand`, and which port a bare table word goes to, are the model's own: notes/assumptions/7, 8.) -/
def Obligations.PlacedCommandRunsNext : Prop :=
  (∀ (s : State) (c : Command), s.Running →
    ∃ m t, exec (decode .xs128 c) s.popInputs = .next m ∧ exec .xs128pHold m = .next t ∧
      step (s.withCommand .xs128 c) = .next t) ∧
  (∀ (s : State) (c : Command), s.Running →
    ∃ m t, exec .xs128Hold s.popInputs = .next m ∧ exec (decode .xs128p c) m = .next t ∧
      step (s.withCommand .xs128p c) = .next t) ∧
  (∀ (s : State) (n w : Nat) (i : Instr), s.Running → decodeTableWord n w = some i →
    ∃ m t, exec i s.popInputs = .next m ∧ exec .xs128pHold m = .next t ∧ step (s.withFetchWord n w) = .next t)

/-- With no host input left a step is `HOLD` on each running engine (the model's choice, notes/assumptions/2). -/
def Obligations.NoHostInputMeansHold : Prop :=
  (∀ (s : State) (a : Xs128), s.pending = [] → s.xs128 = .started a →
    ∃ t, step s = .next t ∧ t.xs128 = .started { a with out := none } ∧ t.pending = []) ∧
  (∀ (s : State) (b : Xs128p), s.pending = [] → s.xs128p = .started b →
    ∃ t, step s = .next t ∧ t.xs128p = .started { b with out := none } ∧ t.pending = [])

/-! ### The four operations: result, frame and completion -/

/-- R61: the post-state is `(y, z, w, w1)`, `w1` is returned, nothing else changes, on every state of the engine. -/
def Obligations.Xs128NextAdvances : Prop :=
  decode .xs128 1#1 = .xs128Next ∧
  ∀ (s : State) (a : Xs128), s.xs128 = .started a →
    let r := a.regs
    let t := r.x ^^^ (r.x <<< 11)
    let w1 := (r.w ^^^ (r.w >>> 19)) ^^^ (t ^^^ (t >>> 8))
    exec .xs128Next s = .next
      { xs128 := .started { regs := { x := r.y, y := r.z, z := r.w, w := w1 }, out := some w1,
                            returned := a.returned ++ [w1] },
        xs128p := s.xs128p, pending := s.pending }

/-- R62: nothing is written, nothing is returned (`out_valid` = 0), on every state of the engine. -/
def Obligations.Xs128HoldKeepsEverything : Prop :=
  decode .xs128 0#1 = .xs128Hold ∧
  ∀ (s : State) (a : Xs128), s.xs128 = .started a → exec .xs128Hold s = .next
    { xs128 := .started { regs := a.regs, out := none, returned := a.returned },
      xs128p := s.xs128p, pending := s.pending }

/-- R76: the post-state is `(s1, n1)`, the sum of the post-state pair is returned, nothing else changes, on every
state of the engine. -/
def Obligations.Xs128pNextAdvances : Prop :=
  decode .xs128p 1#1 = .xs128pNext ∧
  ∀ (s : State) (b : Xs128p), s.xs128p = .started b →
    let r := b.regs
    let x1 := r.s0 ^^^ (r.s0 <<< 23)
    let n1 := x1 ^^^ r.s1 ^^^ (x1 >>> 18) ^^^ (r.s1 >>> 5)
    exec .xs128pNext s = .next
      { xs128 := s.xs128,
        xs128p := .started { regs := { s0 := r.s1, s1 := n1 }, out := some (r.s1 + n1),
                             returned := b.returned ++ [r.s1 + n1] },
        pending := s.pending }

/-- R77: nothing is written, nothing is returned (`out_valid` = 0), on every state of the engine. -/
def Obligations.Xs128pHoldKeepsEverything : Prop :=
  decode .xs128p 0#1 = .xs128pHold ∧
  ∀ (s : State) (b : Xs128p), s.xs128p = .started b → exec .xs128pHold s = .next
    { xs128 := s.xs128,
      xs128p := .started { regs := b.regs, out := none, returned := b.returned },
      pending := s.pending }

/-- 00_scope section 4: the operators of every rule, on naturals. -/
def Obligations.OperatorsOnNaturals : Prop :=
  ∀ (n k : Nat) (a b : BitVec n),
    (shlW a k).toNat = (a.toNat * 2 ^ k) % 2 ^ n ∧
    (lshrW a k).toNat = a.toNat / 2 ^ k ∧
    (addW a b).toNat = (a.toNat + b.toNat) % 2 ^ n ∧
    (∀ i, (xorW a b).getLsbD i = (a.getLsbD i != b.getLsbD i))

/-- R13, R14: the words move down by one register; the last one is new. -/
def Obligations.RegistersShiftDown : Prop :=
  (∀ (s : State) (a : Xs128), s.xs128 = .started a → ∃ t e, exec .xs128Next s = .next t ∧ t.xs128 = .started e ∧
    e.regs.r 0 = a.regs.r 1 ∧ e.regs.r 1 = a.regs.r 2 ∧ e.regs.r 2 = a.regs.r 3) ∧
  (∀ (s : State) (b : Xs128p), s.xs128p = .started b → ∃ t e, exec .xs128pNext s = .next t ∧
    t.xs128p = .started e ∧ e.regs.s 0 = b.regs.s 1)

/-- `NEXT` twice returns two successive words and advances twice; `HOLD` twice is `HOLD` once (20_memory). -/
def Obligations.NextRepeatsDifferHoldRepeatsDoNot : Prop :=
  (∀ (s : State) (a : Xs128), s.xs128 = .started a → ∃ m t e, exec .xs128Next s = .next m ∧
    exec .xs128Next m = .next t ∧ t.xs128 = .started e ∧ e.regs = a.regs.advance.advance ∧
    e.returned = a.returned ++ [a.regs.advance.w, a.regs.advance.advance.w]) ∧
  (∀ (s : State) (b : Xs128p), s.xs128p = .started b → ∃ m t e, exec .xs128pNext s = .next m ∧
    exec .xs128pNext m = .next t ∧ t.xs128p = .started e ∧ e.regs = b.regs.advance.advance ∧
    e.returned = b.returned ++
      [b.regs.advance.s0 + b.regs.advance.s1, b.regs.advance.advance.s0 + b.regs.advance.advance.s1]) ∧
  (∀ s : State, s.isStarted .xs128 = true → ∃ m, exec .xs128Hold s = .next m ∧ exec .xs128Hold m = .next m) ∧
  (∀ s : State, s.isStarted .xs128p = true → ∃ m, exec .xs128pHold s = .next m ∧ exec .xs128pHold m = .next m)

/-- The exact sum of the post-state pair is the word returned plus 2^64 times a carry (41_xorshift128plus R76), and the
whole post-state is given here by the pre-state registers and that word, whatever the carry is: the pair is
`(s1, n1)`, and no field holds the carry (10_state R20). -/
def Obligations.OutputSumDropsItsCarry : Prop :=
  ∀ (s : State) (b : Xs128p), s.xs128p = .started b →
    let x1 := b.regs.s0 ^^^ (b.regs.s0 <<< 23)
    let n1 := x1 ^^^ b.regs.s1 ^^^ (x1 >>> 18) ^^^ (b.regs.s1 >>> 5)
    ∃ v : Word64, v.toNat + (if b.regs.lostCarry then 2 ^ 64 else 0) = b.regs.s1.toNat + n1.toNat ∧
      exec .xs128pNext s = .next
        { xs128 := s.xs128,
          xs128p := .started { regs := { s0 := b.regs.s1, s1 := n1 }, out := some v, returned := b.returned ++ [v] },
          pending := s.pending }

/-- The worked first steps of R61 and R76, run by the machine from reset. -/
def Obligations.FirstOutputsAfterReset : Prop :=
  step (State.reset.withCommand .xs128 1#1) = .next
    { State.reset with
      xs128 := .started { regs := { x := 0x159A55E5, y := 0x1F123BB5, z := 0x05491333, w := 0xDCA345EA },
                          out := some 3701687786, returned := [3701687786] } } ∧
  step (State.reset.withCommand .xs128p 1#1) = .next
    { State.reset with
      xs128p := .started { regs := { s0 := 0x38465C8A03374952, s1 := 0x6F04AFA65B1D762B },
                           out := some 12054742229467840381, returned := [12054742229467840381] } }

/-- The ten first outputs of each engine, as 95_test_vectors section 2 lists them. -/
def Obligations.FirstTenOutputs : Prop :=
  (List.range 10).map xs128Output =
    [3701687786, 458299110, 2500872618, 3633119408, 516391518, 2377269574, 2599949379, 717229868, 137866584,
     395339113] ∧
  (List.range 10).map xs128pOutput =
    [12054742229467840381, 9241388954586379376, 13751416875519839872, 11056489825981517580, 4462997881697032177,
     3109445669288913345, 8271081013071017179, 17821403380850924551, 3487506510965143441, 4541012247278576452]

/-- The wraparound states of 45_sequence_laws: all ones in every register, on any state of the rest. -/
def Obligations.AllOnesStatesWrap : Prop :=
  (∀ (s : State) (a : Xs128), s.xs128 = .started a →
    a.regs = { x := 0xFFFFFFFF, y := 0xFFFFFFFF, z := 0xFFFFFFFF, w := 0xFFFFFFFF } →
    ∃ t e, exec .xs128Next s = .next t ∧ t.xs128 = .started e ∧
      e.regs = { x := 0xFFFFFFFF, y := 0xFFFFFFFF, z := 0xFFFFFFFF, w := 0xFFFFE7F8 } ∧ e.out = some 4294961144) ∧
  (∀ (s : State) (b : Xs128p), s.xs128p = .started b →
    b.regs = { s0 := 0xFFFFFFFFFFFFFFFF, s1 := 0xFFFFFFFFFFFFFFFF } →
    ∃ t e, exec .xs128pNext s = .next t ∧ t.xs128p = .started e ∧
      e.regs = { s0 := 0xFFFFFFFFFFFFFFFF, s1 := 0xF8000000007FFFE0 } ∧ e.out = some 17870283321414516703)

/-! ### Reset, boot and refusal -/

/-- R15, R16: after reset the registers hold the seed. -/
def Obligations.ResetStateHoldsTheSeeds : Prop :=
  (∃ a, State.reset.xs128 = .started a ∧
    a.regs.x = 123456789 ∧ a.regs.y = 362436069 ∧ a.regs.z = 521288629 ∧ a.regs.w = 88675123) ∧
  (∃ b, State.reset.xs128p = .started b ∧ b.regs.s0 = 743057230457 ∧ b.regs.s1 = 4055030262322907474)

/-- R126: a step with `rst` = 1 leaves the seed, whatever came before in the engine's run and whatever the command bit
is (reset wins, R109), and returns nothing. No command word resets. Nothing is asked of the other engine. (Left out is a
run that R129 refuses: how the model holds one is notes/assumptions/5.) -/
def Obligations.ResetStepConstructs : Prop :=
  (∀ (e : Engine) (c : Command), decodePins e { rst := false, next := c } ≠ .reset) ∧
  (∀ (s : State) (c : CoreInputs) (rest : List CoreInputs), s.xs128 ≠ .refused → s.pending = c :: rest →
    c.xs128.rst = true → ∃ t, step s = .next t ∧ t.pending = rest ∧ t.xs128 =
      .started { regs := { x := 123456789, y := 362436069, z := 521288629, w := 88675123 },
                 out := none, returned := s.words128 }) ∧
  (∀ (s : State) (c : CoreInputs) (rest : List CoreInputs), s.xs128p ≠ .refused → s.pending = c :: rest →
    c.xs128p.rst = true → ∃ t, step s = .next t ∧ t.pending = rest ∧ t.xs128p =
      .started { regs := { s0 := 743057230457, s1 := 4055030262322907474 },
                 out := none, returned := s.words128p })

/-- R127: the reset of one engine leaves the other untouched, and whatever one engine's wires carry in a step, a reset
among it, and whatever stands in its life, a running engine ends the step the same. -/
def Obligations.ResetSparesTheOtherEngine : Prop :=
  (∀ s : State, (s.resetEngine .xs128).xs128p = s.xs128p ∧ (s.resetEngine .xs128p).xs128 = s.xs128) ∧
  (∀ (s : State) (a a' p : Pins) (rest : List CoreInputs), s.isStarted .xs128p = true →
    ∃ t t', step { s with pending := { xs128 := a, xs128p := p } :: rest } = .next t ∧
      step { s with pending := { xs128 := a', xs128p := p } :: rest } = .next t' ∧ t.xs128p = t'.xs128p) ∧
  (∀ (s : State) (a p p' : Pins) (rest : List CoreInputs), s.isStarted .xs128 = true →
    ∃ t t', step { s with pending := { xs128 := a, xs128p := p } :: rest } = .next t ∧
      step { s with pending := { xs128 := a, xs128p := p' } :: rest } = .next t' ∧ t.xs128 = t'.xs128)

/-- The boot duty is one reset step per engine, together or in either order, before any reset or in mid-run (R130; what
an engine is while it waits for its first reset with its command bit at 0, and that a refused run has no reset, are the
model's choices, notes/assumptions/5, 6). -/
def Obligations.OneResetPerEngineBoots : Prop :=
  (∀ (s : State) (c : CoreInputs) (rest : List CoreInputs), s.xs128 ≠ .refused → s.xs128p ≠ .refused →
    s.pending = c :: rest → c.xs128.rst = true → c.xs128p.rst = true →
    ∃ t a b, step s = .next t ∧ t.xs128 = .started a ∧ a.regs = .seed ∧
      t.xs128p = .started b ∧ b.regs = .seed) ∧
  (∀ (s : State) (n n' : Command) (rest : List CoreInputs), s.xs128 ≠ .refused → s.xs128p ≠ .refused →
    s.pending = { xs128 := { rst := true, next := n }, xs128p := .idle } ::
                { xs128 := .idle, xs128p := { rst := true, next := n' } } :: rest →
    ∃ t a b, runSteps 2 s = .next t ∧ t.xs128 = .started a ∧ a.regs = .seed ∧
      t.xs128p = .started b ∧ b.regs = .seed) ∧
  (∀ (s : State) (n n' : Command) (rest : List CoreInputs), s.xs128 ≠ .refused → s.xs128p ≠ .refused →
    s.pending = { xs128 := .idle, xs128p := { rst := true, next := n' } } ::
                { xs128 := { rst := true, next := n }, xs128p := .idle } :: rest →
    ∃ t a b, runSteps 2 s = .next t ∧ t.xs128 = .started a ∧ a.regs = .seed ∧
      t.xs128p = .started b ∧ b.regs = .seed)

/-- A step is refused exactly when no engine has a run in it: neither has had its first reset, and neither has it in this
step (70_reset_and_hazards R129; that a refused run has no reset is the model's choice, notes/assumptions/5). -/
def Obligations.OnlyStepsWithoutARunAreRefused : Prop :=
  ∀ (s : State) (r : Refusal), step s = .refused r ↔
    r = .noRunBegun ∧
    s.isStarted .xs128 = false ∧ (s.xs128 = .unstarted → s.fetchInputs.xs128.rst = false) ∧
    s.isStarted .xs128p = false ∧ (s.xs128p = .unstarted → s.fetchInputs.xs128p.rst = false)

/-- R106: no operation of an engine raises anything, on any state of the engine, and none faults on any state at all; no
step faults. (Before its first reset an engine has no state, R129.) -/
def Obligations.NoOperationRaisesAnything : Prop :=
  (∀ (i : Instr) (s : State), s.isStarted i.engine = true → ∃ t, exec i s = .next t) ∧
  (∀ (i : Instr) (s : State) (r : Fault), exec i s ≠ .fault r) ∧ (∀ (s : State) (r : Fault), step s ≠ .fault r)

/-- In every step, whatever the registers hold, the selected operations complete (60_exceptions section 6), if each
engine's run has begun or begins in it. Once both have begun that is always so. A running engine goes on whatever the
other one does or is (45_sequence_laws section 3). -/
def Obligations.EveryStepCompletes : Prop :=
  (∀ s : State, s.Ready → ∃ t, step s = .next t ∧ t.Running) ∧ (∀ s : State, s.Running → s.Ready) ∧
  (∀ s : State, s.isStarted .xs128 = true ∨ s.isStarted .xs128p = true → ∃ t, step s = .next t)

/-- A run has no end of its own (70_reset_and_hazards R132): each engine whose run has begun runs on, for any number of
steps. (Beyond the pending wires the steps are `HOLD`, the model's choice, notes/assumptions/2.) -/
def Obligations.RunsNeverEnd : Prop :=
  ∀ (n : Nat) (s : State), s.isStarted .xs128 = true ∨ s.isStarted .xs128p = true →
    ∃ t, runSteps n s = .next t ∧ t.pending = s.pending.drop n ∧
      ∀ e : Engine, s.isStarted e = true → t.isStarted e = true

/-! ### The output ports and the observation -/

/-- R57: in a step of an engine's run `out_valid` is 1 exactly if the step performs `NEXT`, and `out` is then the word
computed from the pre-state. In any other step there is no word. The words the requester has are those it had and the word
on `out`, if `out_valid` is 1. -/
def Obligations.OutputPortsShowTheCall : Prop :=
  (∀ (s : State) (c : CoreInputs) (rest : List CoreInputs), s.pending = c :: rest → s.xs128.hasRun c.xs128.rst = true →
    ∃ t e, step s = .next t ∧ t.xs128 = .started e ∧
      (e.outValid = true ↔ c.xs128.rst = false ∧ c.xs128.next = 1#1) ∧
      (e.outValid = true → ∃ a, s.xs128 = .started a ∧ e.out = some a.regs.advance.w) ∧
      (e.outValid = false → e.out = none) ∧ e.returned = s.words128 ++ e.out.toList) ∧
  (∀ (s : State) (c : CoreInputs) (rest : List CoreInputs), s.pending = c :: rest → s.xs128p.hasRun c.xs128p.rst = true →
    ∃ t e, step s = .next t ∧ t.xs128p = .started e ∧
      (e.outValid = true ↔ c.xs128p.rst = false ∧ c.xs128p.next = 1#1) ∧
      (e.outValid = true → ∃ b, s.xs128p = .started b ∧ e.out = some (b.regs.advance.s0 + b.regs.advance.s1)) ∧
      (e.outValid = false → e.out = none) ∧ e.returned = s.words128p ++ e.out.toList)

/-- The requester receives the words in order, none reordered, duplicated or lost: a step appends exactly the word on
`out`, if any (20_memory R37; the two fields are the model's own, notes/assumptions/3, 4). -/
def Obligations.WordsArriveInOrder : Prop :=
  (∀ (s t : State) (e : Xs128), step s = .next t → t.xs128 = .started e →
    e.returned = s.words128 ++ e.out.toList ∧ t.words128 = e.returned) ∧
  (∀ (s t : State) (e : Xs128p), step s = .next t → t.xs128p = .started e →
    e.returned = s.words128p ++ e.out.toList ∧ t.words128p = e.returned)

/-- Only `NEXT` and reset write a register, and only their own engine's (10_state R17); and a run begins with nothing but
the engine's reset. -/
def Obligations.OnlyNextAndResetWriteRegisters : Prop :=
  (∀ (i : Instr) (s t : State), exec i s = .next t →
    (i.engine ≠ .xs128 → t.xs128 = s.xs128) ∧ (i.engine ≠ .xs128p → t.xs128p = s.xs128p) ∧
    (i = .xs128Hold → ∃ a e, s.xs128 = .started a ∧ t.xs128 = .started e ∧ e.regs = a.regs) ∧
    (i = .xs128pHold → ∃ b e, s.xs128p = .started b ∧ t.xs128p = .started e ∧ e.regs = b.regs)) ∧
  (∀ (s t : State) (a : Xs128), step s = .next t → s.xs128 = .started a → ∃ e, t.xs128 = .started e ∧
    (e.regs ≠ a.regs → s.fetchInputs.xs128.rst = true ∨ s.fetchInputs.xs128.next = 1#1)) ∧
  (∀ (s t : State) (b : Xs128p), step s = .next t → s.xs128p = .started b → ∃ e, t.xs128p = .started e ∧
    (e.regs ≠ b.regs → s.fetchInputs.xs128p.rst = true ∨ s.fetchInputs.xs128p.next = 1#1)) ∧
  (∀ s t : State, step s = .next t →
    (s.isStarted .xs128 = false → t.isStarted .xs128 = true → s.fetchInputs.xs128.rst = true) ∧
    (s.isStarted .xs128p = false → t.isStarted .xs128p = true → s.fetchInputs.xs128p.rst = true))

/-! ### Facts of the recurrences -/

/-- R64: the state map of `XS128.NEXT` is a bijection with the inverse the rule writes out, sends no non-zero state to
zero, and reaches the seed from the one state the rule names. -/
def Obligations.Xs128StepIsBijective : Prop :=
  (∀ r : Xs128Regs, r.advance.retreat = r) ∧ (∀ r : Xs128Regs, r.retreat.advance = r) ∧
  Function.Bijective Xs128Regs.advance ∧
  (∀ r : Xs128Regs, r.retreat =
    (let u := r.w ^^^ r.z ^^^ (r.z >>> 19)
     let t := u ^^^ (u >>> 8) ^^^ (u >>> 16) ^^^ (u >>> 24)
     { x := t ^^^ (t <<< 11) ^^^ (t <<< 22), y := r.x, z := r.y, w := r.z })) ∧
  (∀ r : Xs128Regs, r ≠ .zero → r.advance ≠ .zero) ∧
  Xs128Regs.seed.retreat = { x := 0x92911A0E, y := 0x075BCD15, z := 0x159A55E5, w := 0x1F123BB5 }

/-- R79: the state map of `XS128P.NEXT` is a bijection with the inverse the rule writes out. -/
def Obligations.Xs128pStepIsBijective : Prop :=
  (∀ r : Xs128pRegs, r.advance.retreat = r) ∧ (∀ r : Xs128pRegs, r.retreat.advance = r) ∧
  Function.Bijective Xs128pRegs.advance ∧
  (∀ r : Xs128pRegs, r.retreat =
    (let v := r.s1 ^^^ r.s0 ^^^ (r.s0 >>> 5)
     let x1 := v ^^^ (v >>> 18) ^^^ (v >>> 36) ^^^ (v >>> 54)
     { s0 := x1 ^^^ (x1 <<< 23) ^^^ (x1 <<< 46), s1 := r.s0 })) ∧
  (∀ r : Xs128pRegs, r ≠ .zero → r.advance ≠ .zero) ∧
  Xs128pRegs.seed.retreat = { s0 := 0xFD869D8B819F70FF, s1 := 0x000000AD01A98A79 }

/-- R65: `XS128.NEXT` is linear over the two-element field, state and output. -/
def Obligations.Xs128StepIsLinear : Prop :=
  ∀ a b : Xs128Regs, (a.xorWith b).advance = a.advance.xorWith b.advance ∧
    (a.xorWith b).output = a.output ^^^ b.output

/-- R80: the state map of `XS128P.NEXT` is linear, its output is not, and the first output from the seed whose exact sum
overflows is the fourth. -/
def Obligations.Xs128pStateMapIsLinear : Prop :=
  (∀ a b : Xs128pRegs, (a.xorWith b).advance = a.advance.xorWith b.advance) ∧
  (∃ a b : Xs128pRegs, (a.xorWith b).output ≠ a.output ^^^ b.output) ∧
  ((xs128pAfter 0).lostCarry = false ∧ (xs128pAfter 1).lostCarry = false ∧ (xs128pAfter 2).lostCarry = false ∧
    (xs128pAfter 3).lostCarry = true) ∧
  xs128pAfter 4 = { s0 := 0xAD9B86261572903B, s1 := 0xEBD504C4A6E6BED1 } ∧
  (xs128pAfter 4).s0.toNat + (xs128pAfter 4).s1.toNat = 0x199708AEABC594F0C ∧
  xs128pOutput 3 = 0x99708AEABC594F0C

/-- R24, R25: the all-zero state of each engine is a fixed point of its `NEXT` with output 0, an instruction like any
other on it, and no non-zero state leads to it. -/
def Obligations.ZeroStatesAreIsolatedFixedPoints : Prop :=
  (∀ (s : State) (a : Xs128), s.xs128 = .started a →
    ∃ t e, exec .xs128Next s = .next t ∧ t.xs128 = .started e ∧
    (a.regs = .zero → e.regs = .zero ∧ e.out = some 0) ∧ (a.regs ≠ .zero → e.regs ≠ .zero)) ∧
  (∀ (s : State) (b : Xs128p), s.xs128p = .started b →
    ∃ t e, exec .xs128pNext s = .next t ∧ t.xs128p = .started e ∧
    (b.regs = .zero → e.regs = .zero ∧ e.out = some 0) ∧ (b.regs ≠ .zero → e.regs ≠ .zero))

/-- R94: whatever the host does from reset on, in as many steps as it likes, neither engine is ever in its all-zero
state. -/
def Obligations.ZeroStateIsNeverReached : Prop :=
  ∀ (cs : List CoreInputs) (n : Nat), n ≤ cs.length →
    ∃ t a b, runSteps n { State.reset with pending := cs } = .next t ∧
      t.xs128 = .started a ∧ a.regs ≠ .zero ∧ t.xs128p = .started b ∧ b.regs ≠ .zero

/-- R63: with `o 0` to `o 3` the seed, the states and outputs of `XS128` are the stretches of the one sequence the
recurrence gives. (`o n` is the rule's `o(n - 3)`.) -/
def Obligations.Xs128OutputsObeyTheRecurrence : Prop :=
  ∀ o : Nat → Word32, o 0 = 123456789 → o 1 = 362436069 → o 2 = 521288629 → o 3 = 88675123 →
    (∀ n, o (n + 4) =
      (let T := o n ^^^ (o n <<< 11)
       o (n + 3) ^^^ (o (n + 3) >>> 19) ^^^ T ^^^ (T >>> 8))) →
    ∀ k, xs128After k = { x := o k, y := o (k + 1), z := o (k + 2), w := o (k + 3) } ∧ xs128Output k = o (k + 4)

/-- R78: with `v 0`, `v 1` the seed, the states of `XS128P` are the stretches of the one sequence the recurrence gives,
and each output is a sum of neighbours that never enters a state. (`v n` is the rule's `v(n - 1)`.) -/
def Obligations.Xs128pOutputsObeyTheRecurrence : Prop :=
  ∀ v : Nat → Word64, v 0 = 743057230457 → v 1 = 4055030262322907474 →
    (∀ n, v (n + 2) =
      (let X := v n ^^^ (v n <<< 23)
       X ^^^ v (n + 1) ^^^ (X >>> 18) ^^^ (v (n + 1) >>> 5))) →
    ∀ k, xs128pAfter k = { s0 := v k, s1 := v (k + 1) } ∧ xs128pOutput k = v (k + 1) + v (k + 2)

/-! ### Laws of whole runs -/

/-- Headline: the lockstep machine of two engines is exactly two stand-alone engines: an engine whose run has begun goes on
as a stand-alone one does on its own column of the host's wires, for any number of steps and any wires, whatever the other
engine does or is. (For steps beyond the pending wires the column is at its end and the engine holds, the model's choice,
notes/assumptions/2.) -/
def Obligations.CoreIsTwoStandAloneEngines : Prop :=
  (∀ (n : Nat) (s : State) (a : Xs128), s.xs128 = .started a →
    ∃ t e, runSteps n s = .next t ∧ t.xs128 = .started e ∧
      e.regs = (xs128Column (column .xs128 (s.pending.take n)) a.regs).1 ∧
      e.returned = a.returned ++ (xs128Column (column .xs128 (s.pending.take n)) a.regs).2) ∧
  (∀ (n : Nat) (s : State) (b : Xs128p), s.xs128p = .started b →
    ∃ t e, runSteps n s = .next t ∧ t.xs128p = .started e ∧
      e.regs = (xs128pColumn (column .xs128p (s.pending.take n)) b.regs).1 ∧
      e.returned = b.returned ++ (xs128pColumn (column .xs128p (s.pending.take n)) b.regs).2)

/-- R98: an engine's words and final state depend on its own column only, in any two states, whatever stands in the other
engine's life and on its wires; and if the engine's run has begun or begins in the first step, both runs complete. -/
def Obligations.EnginesDoNotInterfere : Prop :=
  (∀ (n : Nat) (s s' : State), n ≤ s.pending.length → s.xs128 = s'.xs128 →
    column .xs128 s.pending = column .xs128 s'.pending →
    (∀ t t', runSteps n s = .next t → runSteps n s' = .next t' → t.xs128 = t'.xs128) ∧
    (s.xs128.hasRun s.fetchInputs.xs128.rst = true →
      ∃ t t', runSteps n s = .next t ∧ runSteps n s' = .next t' ∧ t.xs128 = t'.xs128)) ∧
  (∀ (n : Nat) (s s' : State), n ≤ s.pending.length → s.xs128p = s'.xs128p →
    column .xs128p s.pending = column .xs128p s'.pending →
    (∀ t t', runSteps n s = .next t → runSteps n s' = .next t' → t.xs128p = t'.xs128p) ∧
    (s.xs128p.hasRun s.fetchInputs.xs128p.rst = true →
      ∃ t t', runSteps n s = .next t ∧ runSteps n s' = .next t' ∧ t.xs128p = t'.xs128p))

/-- R97: removing or inserting `HOLD`s changes neither the words an engine returns nor its final state. -/
def Obligations.HoldsAreTransparent : Prop :=
  (∀ (s s' : State) (a a' : Xs128), s.xs128 = .started a → s'.xs128 = .started a' → a.regs = a'.regs →
    a.returned = a'.returned →
    withoutHolds (column .xs128 s.pending) = withoutHolds (column .xs128 s'.pending) →
    ∃ t t' e e', runSteps s.pending.length s = .next t ∧ runSteps s'.pending.length s' = .next t' ∧
      t.xs128 = .started e ∧ t'.xs128 = .started e' ∧ e.regs = e'.regs ∧ e.returned = e'.returned) ∧
  (∀ (s s' : State) (b b' : Xs128p), s.xs128p = .started b → s'.xs128p = .started b' → b.regs = b'.regs →
    b.returned = b'.returned →
    withoutHolds (column .xs128p s.pending) = withoutHolds (column .xs128p s'.pending) →
    ∃ t t' e e', runSteps s.pending.length s = .next t ∧ runSteps s'.pending.length s' = .next t' ∧
      t.xs128p = .started e ∧ t'.xs128p = .started e' ∧ e.regs = e'.regs ∧ e.returned = e'.returned)

/-- Headline, R91: from any state in which the engine's run is not refused (a block before any reset, or any point of a
run), after a reset and then `k` `NEXT`s among any `HOLD`s, whatever the other engine does or is, an engine is in the
`k`-th state of its one sequence and has returned `o(1)` to `o(k)` since. -/
def Obligations.RunsFollowTheOneSequence : Prop :=
  (∀ (s : State) (c : CoreInputs) (after : List CoreInputs), s.xs128 ≠ .refused → s.pending = c :: after →
    c.xs128.rst = true → (∀ p ∈ column .xs128 after, p.rst = false) →
    ∃ t e, runSteps s.pending.length s = .next t ∧ t.xs128 = .started e ∧
      e.regs = xs128After (nextCount (column .xs128 after)) ∧
      e.returned = s.words128 ++ (List.range (nextCount (column .xs128 after))).map xs128Output) ∧
  (∀ (s : State) (c : CoreInputs) (after : List CoreInputs), s.xs128p ≠ .refused → s.pending = c :: after →
    c.xs128p.rst = true → (∀ p ∈ column .xs128p after, p.rst = false) →
    ∃ t e, runSteps s.pending.length s = .next t ∧ t.xs128p = .started e ∧
      e.regs = xs128pAfter (nextCount (column .xs128p after)) ∧
      e.returned = s.words128p ++ (List.range (nextCount (column .xs128p after))).map xs128pOutput)

/-- R96: `K` words and then, after any pause, `L` more are `o(K + 1)` to `o(K + L)`, which are the last `L` of the
`K + L` words of a fresh instance. The command bit of either `RESET` step is any (R109). -/
def Obligations.SequenceLengthIndependence : Prop :=
  (∀ (s : State) (K L pause : Nat) (n : Command), s.xs128 ≠ .refused →
    column .xs128 s.pending = { rst := true, next := n } :: (List.replicate K { rst := false, next := 1#1 } ++
      List.replicate pause { rst := false, next := 0#1 } ++ List.replicate L { rst := false, next := 1#1 }) →
    ∃ m t, runSteps (1 + K + pause) s = .next m ∧ runSteps L m = .next t ∧
      t.words128 = m.words128 ++ ((List.range (K + L)).map xs128Output).drop K ∧
      ∀ (u : State) (n' : Command), u.xs128 ≠ .refused →
        column .xs128 u.pending = { rst := true, next := n' } :: List.replicate (K + L) { rst := false, next := 1#1 } →
        ∃ v, runSteps (1 + K + L) u = .next v ∧
          v.words128.drop (u.words128.length + K) = t.words128.drop m.words128.length) ∧
  (∀ (s : State) (K L pause : Nat) (n : Command), s.xs128p ≠ .refused →
    column .xs128p s.pending = { rst := true, next := n } :: (List.replicate K { rst := false, next := 1#1 } ++
      List.replicate pause { rst := false, next := 0#1 } ++ List.replicate L { rst := false, next := 1#1 }) →
    ∃ m t, runSteps (1 + K + pause) s = .next m ∧ runSteps L m = .next t ∧
      t.words128p = m.words128p ++ ((List.range (K + L)).map xs128pOutput).drop K ∧
      ∀ (u : State) (n' : Command), u.xs128p ≠ .refused →
        column .xs128p u.pending = { rst := true, next := n' } :: List.replicate (K + L) { rst := false, next := 1#1 } →
        ∃ v, runSteps (1 + K + L) u = .next v ∧
          v.words128p.drop (u.words128p.length + K) = t.words128p.drop m.words128p.length)

/-- Operations of different engines commute, and so do the two engines' parts of a step (00_scope R10, 20_memory R38). -/
def Obligations.OperationsOfTwoEnginesCommute : Prop :=
  (∀ (i j : Instr) (s : State), i.engine ≠ j.engine → s.Running →
    ∃ a b t, exec i s = .next a ∧ exec j a = .next t ∧ exec j s = .next b ∧ exec i b = .next t) ∧
  (∀ (s : State) (p q : Pins),
    ∃ a b t, perform .xs128 p s = .next a ∧ perform .xs128p q a = .next t ∧
      perform .xs128p q s = .next b ∧ perform .xs128 p b = .next t)

/-- Headline (b): every step keeps the invariant of the machine. (The output fields and the words returned, which it speaks
of beside the registers, are the model's own: notes/assumptions/3, 4.) -/
def Obligations.StepKeepsTheInvariant : Prop :=
  ∀ s s' : State, s.Inv → step s = .next s' → s'.Inv

/-- The state after reset, and a block before any reset, meet the invariant. -/
def Obligations.ResetMeetsTheInvariant : Prop :=
  State.reset.Inv ∧ ∀ cs : List CoreInputs, (State.beforeReset cs).Inv

/-! ### Before the first reset -/

/-- Before an engine's first reset no operation of it has a meaning: `exec` refuses it by the engine's name. In a step in
which the other engine has a run, that run goes on, an engine called before its first reset has its own run refused, one
that is not called goes on waiting, and a refused run stays refused, whatever its wires carry (70_reset_and_hazards R129;
that a run is refused for good, and what a waiting engine is, are the model's choices, notes/assumptions/5, 6). -/
def Obligations.NothingRunsBeforeTheFirstReset : Prop :=
  (∀ (i : Instr) (s : State), s.isStarted i.engine = false → exec i s = .refused (.beforeFirstReset i.engine)) ∧
  (∀ (s : State) (c : CoreInputs) (rest : List CoreInputs), s.pending = c :: rest →
    s.xs128p.hasRun c.xs128p.rst = true → ∃ t, step s = .next t ∧ t.isStarted .xs128p = true ∧
      (s.xs128 = .unstarted → c.xs128.rst = false → c.xs128.next = 1#1 → t.xs128 = .refused) ∧
      (s.xs128 = .unstarted → c.xs128.rst = false → c.xs128.next = 0#1 → t.xs128 = .unstarted) ∧
      (s.xs128 = .refused → t.xs128 = .refused)) ∧
  (∀ (s : State) (c : CoreInputs) (rest : List CoreInputs), s.pending = c :: rest →
    s.xs128.hasRun c.xs128.rst = true → ∃ t, step s = .next t ∧ t.isStarted .xs128 = true ∧
      (s.xs128p = .unstarted → c.xs128p.rst = false → c.xs128p.next = 1#1 → t.xs128p = .refused) ∧
      (s.xs128p = .unstarted → c.xs128p.rst = false → c.xs128p.next = 0#1 → t.xs128p = .unstarted) ∧
      (s.xs128p = .refused → t.xs128p = .refused))
end

