-- ==== Sys2Proof/Laws/State.lean ====
section
/-! SUPPORT. One lemma per field per update of the state, and the fetch of the host's input. -/

namespace Sys2Proof.Machine

@[simp] theorem Xs128.next_regs (e : Xs128) : e.next.regs = e.regs.advance := rfl
@[simp] theorem Xs128.next_out (e : Xs128) : e.next.out = some e.regs.output := rfl
@[simp] theorem Xs128.next_returned (e : Xs128) : e.next.returned = e.returned ++ [e.regs.output] := rfl
@[simp] theorem Xs128.hold_regs (e : Xs128) : e.hold.regs = e.regs := rfl
@[simp] theorem Xs128.hold_out (e : Xs128) : e.hold.out = none := rfl
@[simp] theorem Xs128.hold_returned (e : Xs128) : e.hold.returned = e.returned := rfl
@[simp] theorem Xs128.construct_regs (e : Xs128) : e.construct.regs = .seed := rfl
@[simp] theorem Xs128.construct_out (e : Xs128) : e.construct.out = none := rfl
@[simp] theorem Xs128.construct_returned (e : Xs128) : e.construct.returned = e.returned := rfl

@[simp] theorem Xs128p.next_regs (e : Xs128p) : e.next.regs = e.regs.advance := rfl
@[simp] theorem Xs128p.next_out (e : Xs128p) : e.next.out = some e.regs.output := rfl
@[simp] theorem Xs128p.next_returned (e : Xs128p) : e.next.returned = e.returned ++ [e.regs.output] := rfl
@[simp] theorem Xs128p.hold_regs (e : Xs128p) : e.hold.regs = e.regs := rfl
@[simp] theorem Xs128p.hold_out (e : Xs128p) : e.hold.out = none := rfl
@[simp] theorem Xs128p.hold_returned (e : Xs128p) : e.hold.returned = e.returned := rfl
@[simp] theorem Xs128p.construct_regs (e : Xs128p) : e.construct.regs = .seed := rfl
@[simp] theorem Xs128p.construct_out (e : Xs128p) : e.construct.out = none := rfl
@[simp] theorem Xs128p.construct_returned (e : Xs128p) : e.construct.returned = e.returned := rfl

@[simp] theorem State.setXs128_xs128 (s : State) (l : Lifecycle Xs128) : (s.setXs128 l).xs128 = l := rfl
@[simp] theorem State.setXs128_xs128p (s : State) (l : Lifecycle Xs128) : (s.setXs128 l).xs128p = s.xs128p := rfl
@[simp] theorem State.setXs128_pending (s : State) (l : Lifecycle Xs128) : (s.setXs128 l).pending = s.pending := rfl
@[simp] theorem State.setXs128p_xs128 (s : State) (l : Lifecycle Xs128p) : (s.setXs128p l).xs128 = s.xs128 := rfl
@[simp] theorem State.setXs128p_xs128p (s : State) (l : Lifecycle Xs128p) : (s.setXs128p l).xs128p = l := rfl
@[simp] theorem State.setXs128p_pending (s : State) (l : Lifecycle Xs128p) : (s.setXs128p l).pending = s.pending := rfl
@[simp] theorem State.popInputs_xs128 (s : State) : s.popInputs.xs128 = s.xs128 := rfl
@[simp] theorem State.popInputs_xs128p (s : State) : s.popInputs.xs128p = s.xs128p := rfl
@[simp] theorem State.popInputs_pending (s : State) : s.popInputs.pending = s.pending.tail := rfl

@[simp] theorem Lifecycle.isStarted_unstarted {α : Type} : (Lifecycle.unstarted : Lifecycle α).isStarted = false := rfl
@[simp] theorem Lifecycle.isStarted_started {α : Type} (e : α) : (Lifecycle.started e).isStarted = true := rfl
@[simp] theorem Lifecycle.isStarted_refused {α : Type} : (Lifecycle.refused : Lifecycle α).isStarted = false := rfl
/-- The run has begun exactly if there is an engine. -/
theorem Lifecycle.isStarted_iff {α : Type} {l : Lifecycle α} : l.isStarted = true ↔ ∃ e, l = .started e := by
  cases l <;> simp

@[simp] theorem Lifecycle.hasRun_unstarted {α : Type} (r : Bool) : (Lifecycle.unstarted : Lifecycle α).hasRun r = r := rfl
@[simp] theorem Lifecycle.hasRun_started {α : Type} (e : α) (r : Bool) : (Lifecycle.started e).hasRun r = true := rfl
@[simp] theorem Lifecycle.hasRun_refused {α : Type} (r : Bool) : (Lifecycle.refused : Lifecycle α).hasRun r = false := rfl
/-- An engine whose run is not refused has a run in a step that resets it. -/
theorem Lifecycle.hasRun_reset {α : Type} {l : Lifecycle α} (h : l ≠ .refused) : l.hasRun true = true := by
  cases l <;> simp_all

@[simp] theorem State.isStarted_xs128 (s : State) : s.isStarted .xs128 = s.xs128.isStarted := rfl
@[simp] theorem State.isStarted_xs128p (s : State) : s.isStarted .xs128p = s.xs128p.isStarted := rfl
@[simp] theorem State.resetEngine_xs128 (s : State) :
    s.resetEngine .xs128 = s.setXs128 (s.xs128.construct .fresh Xs128.construct) := rfl
@[simp] theorem State.resetEngine_xs128p (s : State) :
    s.resetEngine .xs128p = s.setXs128p (s.xs128p.construct .fresh Xs128p.construct) := rfl
@[simp] theorem State.refuseRun_xs128 (s : State) : s.refuseRun .xs128 = s.setXs128 s.xs128.refuse := rfl
@[simp] theorem State.refuseRun_xs128p (s : State) : s.refuseRun .xs128p = s.setXs128p s.xs128p.refuse := rfl

theorem State.onXs128_started {s : State} {e : Xs128} (f : Xs128 → Xs128) (h : s.xs128 = .started e) :
    s.onXs128 f = .next (s.setXs128 (.started (f e))) := by simp [State.onXs128, h]
theorem State.onXs128p_started {s : State} {e : Xs128p} (f : Xs128p → Xs128p) (h : s.xs128p = .started e) :
    s.onXs128p f = .next (s.setXs128p (.started (f e))) := by simp [State.onXs128p, h]

theorem State.fetchInputs_nil {s : State} (h : s.pending = []) : s.fetchInputs = .idle := by
  simp [State.fetchInputs, h]

theorem State.fetchInputs_cons {s : State} {c : CoreInputs} {cs : List CoreInputs} (h : s.pending = c :: cs) :
    s.fetchInputs = c := by
  simp [State.fetchInputs, h]

@[simp] theorem State.withCommand_xs128 (s : State) (e : Engine) (c : Command) :
    (s.withCommand e c).xs128 = s.xs128 := by cases e <;> rfl
@[simp] theorem State.withCommand_xs128p (s : State) (e : Engine) (c : Command) :
    (s.withCommand e c).xs128p = s.xs128p := by cases e <;> rfl
/-- A command word replaces what the wires were to carry in the next step, and no later step. -/
theorem State.withCommand_popInputs_pending (s : State) (e : Engine) (c : Command) :
    (s.withCommand e c).popInputs.pending = s.pending.tail := by cases e <;> rfl
theorem State.withCommand_fetchInputs_pins (s : State) (e : Engine) (c : Command) :
    (s.withCommand e c).fetchInputs.pins e = { rst := false, next := c } := by cases e <;> rfl

end Sys2Proof.Machine
end

