-- ==== Sys2Proof/Laws/Ops.lean ====
section
/-! SUPPORT. What each shared operation does, said once: the arithmetic, the wires' selection, one engine's part of a step, a step, a run. -/

namespace Sys2Proof.Machine

theorem word32_width : Word32 = BitVec (Config.wordWidth .xs128) := rfl
theorem word64_width : Word64 = BitVec (Config.wordWidth .xs128p) := rfl
theorem command_width : Command = BitVec Config.commandWidth := rfl

theorem shlW_eq {n : Nat} (v : BitVec n) (k : Nat) : shlW v k = v <<< k := rfl
theorem lshrW_eq {n : Nat} (v : BitVec n) (k : Nat) : lshrW v k = v >>> k := rfl
theorem addW_eq {n : Nat} (a b : BitVec n) : addW a b = a + b := rfl
theorem xorW_eq {n : Nat} (a b : BitVec n) : xorW a b = a ^^^ b := rfl

@[simp] theorem Xs128Regs.advance_x (r : Xs128Regs) : r.advance.x = r.y := rfl
@[simp] theorem Xs128Regs.advance_y (r : Xs128Regs) : r.advance.y = r.z := rfl
@[simp] theorem Xs128Regs.advance_z (r : Xs128Regs) : r.advance.z = r.w := rfl
@[simp] theorem Xs128Regs.advance_w (r : Xs128Regs) : r.advance.w = xs128Word r.x r.w := rfl
theorem Xs128Regs.output_eq (r : Xs128Regs) : r.output = r.advance.w := rfl
@[simp] theorem Xs128pRegs.advance_s0 (r : Xs128pRegs) : r.advance.s0 = r.s1 := rfl
@[simp] theorem Xs128pRegs.advance_s1 (r : Xs128pRegs) : r.advance.s1 = xs128pWord r.s0 r.s1 := rfl
theorem Xs128pRegs.output_eq (r : Xs128pRegs) : r.output = r.advance.s0 + r.advance.s1 := rfl

/-- A command bit is 0 or 1. -/
theorem command_eq_zero_of_ne_one {c : Command} (h : c ≠ 1#1) : c = 0#1 := by
  revert h; revert c; decide

/-- What the wires of an engine select (R48). -/
theorem decodePins_cases (e : Engine) (p : Pins) :
    (p.rst = true ∧ decodePins e p = .reset) ∨
    (p.rst = false ∧ p.next = 1#1 ∧ decodePins e p = .op e.nextInstr) ∨
    (p.rst = false ∧ p.next = 0#1 ∧ decodePins e p = .op e.holdInstr) := by
  obtain ⟨r, c⟩ := p
  cases r
  · by_cases h : c = 1#1
    · subst h; cases e <;> simp [decodePins, decode, Engine.nextInstr]
    · have h0 := command_eq_zero_of_ne_one h
      subst h0; cases e <;> simp [decodePins, decode, Engine.holdInstr]
  · simp [decodePins]

/-- What a running `XS128` becomes in a step with the given wires. -/
def Xs128.after (e : Xs128) (p : Pins) : Xs128 :=
  if p.rst then e.construct else if p.next = 1#1 then e.next else e.hold

/-- What a running `XS128P` becomes in a step with the given wires. -/
def Xs128p.after (e : Xs128p) (p : Pins) : Xs128p :=
  if p.rst then e.construct else if p.next = 1#1 then e.next else e.hold

/-- What an engine becomes in a step with the given wires, whatever stands in its life, given what a running one
becomes. -/
def Lifecycle.after {α : Type} (fresh : α) (f : α → Pins → α) (l : Lifecycle α) (p : Pins) : Lifecycle α :=
  match l with
  | .started e => .started (f e p)
  | .unstarted => if p.rst then .started fresh else if p.next = 1#1 then .refused else .unstarted
  | .refused => .refused

@[simp] theorem Lifecycle.after_started {α : Type} (fresh e : α) (f : α → Pins → α) (p : Pins) :
    (Lifecycle.started e).after fresh f p = .started (f e p) := rfl
@[simp] theorem Lifecycle.after_refused {α : Type} (fresh : α) (f : α → Pins → α) (p : Pins) :
    (Lifecycle.refused).after fresh f p = .refused := rfl

/-- An engine has a run after a step exactly if it has one in it. -/
@[simp] theorem Lifecycle.isStarted_after {α : Type} (fresh : α) (f : α → Pins → α) (l : Lifecycle α) (p : Pins) :
    (l.after fresh f p).isStarted = l.hasRun p.rst := by
  cases l
  · cases h : p.rst <;> by_cases hn : p.next = 1#1 <;> simp [Lifecycle.after, h, hn]
  · rfl
  · rfl

/-- The `XS128` part of a step answers a next state in this one way, on every state. -/
theorem perform_xs128 (p : Pins) (s : State) :
    perform .xs128 p s = .next (s.setXs128 (s.xs128.after .fresh Xs128.after p)) := by
  rcases decodePins_cases .xs128 p with ⟨hr, hd⟩ | ⟨hr, hn, hd⟩ | ⟨hr, hn, hd⟩ <;> cases h : s.xs128 <;>
    simp [perform, exec, execXs128Next, execXs128Hold, State.onXs128, Lifecycle.after, Xs128.after,
      Lifecycle.construct, Lifecycle.refuse, Engine.nextInstr, Engine.holdInstr, Instr.isNext, *]
  all_goals simp [State.setXs128, ← h]

/-- The `XS128P` part of a step answers a next state in this one way, on every state. -/
theorem perform_xs128p (p : Pins) (s : State) :
    perform .xs128p p s = .next (s.setXs128p (s.xs128p.after .fresh Xs128p.after p)) := by
  rcases decodePins_cases .xs128p p with ⟨hr, hd⟩ | ⟨hr, hn, hd⟩ | ⟨hr, hn, hd⟩ <;> cases h : s.xs128p <;>
    simp [perform, exec, execXs128pNext, execXs128pHold, State.onXs128p, Lifecycle.after, Xs128p.after,
      Lifecycle.construct, Lifecycle.refuse, Engine.nextInstr, Engine.holdInstr, Instr.isNext, *]
  all_goals simp [State.setXs128p, ← h]

/-- The state a step leads to: each engine moved by its own wires, the inputs it read dropped. -/
def State.after (s : State) : State :=
  { xs128 := s.xs128.after .fresh Xs128.after s.fetchInputs.xs128,
    xs128p := s.xs128p.after .fresh Xs128p.after s.fetchInputs.xs128p,
    pending := s.pending.tail }

/-- All a step can do: go on as long as some engine has a run. -/
theorem step_eq (s : State) :
    step s = if s.xs128.hasRun s.fetchInputs.xs128.rst || s.xs128p.hasRun s.fetchInputs.xs128p.rst then .next s.after
      else .refused .noRunBegun := by
  rw [← Lifecycle.isStarted_after .fresh Xs128.after, ← Lifecycle.isStarted_after .fresh Xs128p.after]
  unfold step cycle
  rw [perform_xs128]
  simp only []
  rw [perform_xs128p]
  rfl

/-- A step answers a next state in this one way. -/
theorem step_next_iff {s t : State} :
    step s = .next t ↔
      (s.xs128.hasRun s.fetchInputs.xs128.rst = true ∨ s.xs128p.hasRun s.fetchInputs.xs128p.rst = true) ∧ t = s.after := by
  rw [step_eq, ← Bool.or_eq_true]
  split <;> rename_i h
  · exact ⟨fun e => ⟨h, by cases e; rfl⟩, fun e => by rw [e.2]⟩
  · exact ⟨fun e => (by cases e), fun e => absurd e.1 h⟩

/-- A running `XS128` goes on whatever the other engine does. -/
theorem step_of_xs128 {s : State} {a : Xs128} (h : s.xs128 = .started a) :
    step s = .next s.after ∧ s.after.xs128 = .started (a.after s.fetchInputs.xs128) :=
  ⟨step_next_iff.2 ⟨.inl (by simp [h]), rfl⟩, by simp [State.after, h]⟩

/-- A running `XS128P` goes on whatever the other engine does. -/
theorem step_of_xs128p {s : State} {b : Xs128p} (h : s.xs128p = .started b) :
    step s = .next s.after ∧ s.after.xs128p = .started (b.after s.fetchInputs.xs128p) :=
  ⟨step_next_iff.2 ⟨.inr (by simp [h]), rfl⟩, by simp [State.after, h]⟩

@[simp] theorem runSteps_zero (s : State) : runSteps 0 s = .next s := rfl

theorem runSteps_succ {n : Nat} {s t : State} (h : step s = .next t) : runSteps (n + 1) s = runSteps n t := by
  simp [runSteps, h]

/-- `runSteps` is the host's own run of the machine. -/
theorem runSteps_eq_host_run (n : Nat) (s : State) : runSteps n s = Host.Core.run Sys2Proof.core n s := by
  induction n generalizing s with
  | zero => rfl
  | succ n ih =>
    cases h : step s with
    | next t =>
      have h' : Host.Core.step Sys2Proof.core s = .next t := h
      simp only [runSteps, Host.Core.run, h, h']
      exact ih t
    | fault r =>
      have h' : Host.Core.step Sys2Proof.core s = .fault r := h
      simp only [runSteps, Host.Core.run, h, h']
      rfl
    | refused r =>
      have h' : Host.Core.step Sys2Proof.core s = .refused r := h
      simp only [runSteps, Host.Core.run, h, h']
      rfl

/-- A run in two parts. -/
theorem runSteps_add {m n : Nat} {s t : State} (h : runSteps m s = .next t) :
    runSteps (m + n) s = runSteps n t := by
  induction m generalizing s with
  | zero => cases h; simp
  | succ m ih =>
    rw [Nat.add_right_comm]
    cases hs : step s with
    | next u => rw [runSteps_succ hs] at h ⊢; exact ih h
    | fault r => simp [runSteps, hs] at h
    | refused r => simp [runSteps, hs] at h

end Sys2Proof.Machine
end

