-- ==== Sys2Proof/Laws/PerInstr.lean ====
section
/-! SUPPORT. Statements about every operation as it is written, one lemma per constructor (spec 30_encoding R52). -/

/-- The operation's word, on its own engine's port, decodes to the operation. -/
def Sys2Proof.Laws.RoundTrip.Statement (i : Sys2Proof.Instr) : Prop :=
  Sys2Proof.decode i.engine (Sys2Proof.encode i) = i

theorem Sys2Proof.Laws.RoundTrip.xs128Next : Sys2Proof.Laws.RoundTrip.Statement .xs128Next := rfl
theorem Sys2Proof.Laws.RoundTrip.xs128Hold : Sys2Proof.Laws.RoundTrip.Statement .xs128Hold := rfl
theorem Sys2Proof.Laws.RoundTrip.xs128pNext : Sys2Proof.Laws.RoundTrip.Statement .xs128pNext := rfl
theorem Sys2Proof.Laws.RoundTrip.xs128pHold : Sys2Proof.Laws.RoundTrip.Statement .xs128pHold := rfl
end

