-- ==== Sys2Proof/Tests/Slice0.lean ====
section
/-! SUPPORT. Tests with results taken from spec 95_test_vectors and the worked examples of the rules, and for each statement with hypotheses a state that meets them all together. -/

namespace Sys2Proof.Tests

open Sys2Proof.Machine

/-! ### Well-formedness refuses what is ill formed -/

theorem test_wf_instr_on_wrong_port : Instr.wfOn .xs128 .xs128pNext = false := by decide
theorem test_wf_column_of_two_engines : wfColumn .xs128 [.op .xs128Next, .op .xs128pHold] = false := by decide
theorem test_wf_row_swapped : CoreRow.wf { xs128 := .op .xs128pNext, xs128p := .reset } = false := by decide
theorem test_wf_row_swapped_xs128p : CoreRow.wf { xs128 := .reset, xs128p := .op .xs128Hold } = false := by decide
theorem test_wf_program_second_row :
    wfProgram [{ xs128 := .reset, xs128p := .reset }, { xs128 := .op .xs128pHold, xs128p := .reset }] = false := by
  decide
theorem test_run_must_begin_with_reset : beginsWithReset [.op .xs128Next, .reset] = false := by decide

/-! ### Words written out from the formats C32 and C64 -/

theorem test_decode_C32_n1 : decode .xs128 0b1#1 = .xs128Next := by decide
theorem test_decode_C32_n0 : decode .xs128 0b0#1 = .xs128Hold := by decide
theorem test_decode_C64_n1 : decode .xs128p 0b1#1 = .xs128pNext := by decide
theorem test_decode_C64_n0 : decode .xs128p 0b0#1 = .xs128pHold := by decide
theorem test_decode_too_wide : decodeBits .xs128 8 0b10 = .error .widerThanPort := by rfl
theorem test_decode_too_wide_xs128p : decodeBits .xs128p 16 0xFFFF = .error .widerThanPort := by rfl
theorem test_decode_no_bit : decodeBits .xs128p 0 0 = .error .noBit := by rfl
theorem test_table_word_1 : decodeTableWord 8 1 = some .xs128Next := by decide
theorem test_table_word_0 : decodeTableWord 8 0 = some .xs128Hold := by decide
/-- Program P4's wires: reset wins over the command bit in its step 3. -/
theorem test_reset_wins_over_command : decodePins .xs128 { rst := true, next := 1#1 } = .reset := by decide
/-- Program P5's encoding: `rst` = `1 0 0 0 0 0 0 0`, `next` = `- 1 1 1 0 0 1 1`. -/
theorem test_encode_P5 :
    (encodeColumn (expandColumn .xs128p [.reset, .nextTimes 3, .holdTimes 2, .nextTimes 2])).map
      (fun p => (p.rst, p.next)) =
    [(true, 0#1), (false, 1#1), (false, 1#1), (false, 1#1), (false, 0#1), (false, 0#1), (false, 1#1),
     (false, 1#1)] := by decide

/-! ### One step on chosen states (95_test_vectors section 3) -/

/-- A block whose engines hold the given registers, with what the wires are to carry. -/
def block (r : Xs128Regs) (p : Xs128pRegs) (cs : List CoreInputs) : State where
  xs128 := .started { regs := r, out := none, returned := [] }
  xs128p := .started { regs := p, out := none, returned := [] }
  pending := cs

/-- What an operation leaves of the registers and on the output ports, if both engines run. -/
def seen (o : Host.Outcome State Fault Refusal) : Option (Xs128Regs × Option Word32 × Xs128pRegs × Option Word64) :=
  match o with
  | .next { xs128 := .started a, xs128p := .started b, pending := _ } => some (a.regs, a.out, b.regs, b.out)
  | .next _ => none
  | .fault _ => none
  | .refused _ => none

/-- The refusal of a step, if it is refused. -/
def refusal (o : Host.Outcome State Fault Refusal) : Option Refusal :=
  match o with
  | .next _ => none
  | .fault _ => none
  | .refused r => some r

def both (a b : Pins) : CoreInputs := { xs128 := a, xs128p := b }
def pNext : Pins := { rst := false, next := 1#1 }
def pHold : Pins := { rst := false, next := 0#1 }
def pReset : Pins := { rst := true, next := 0#1 }
def pResetNext : Pins := { rst := true, next := 1#1 }

/-- Vector A17: every register distinct. -/
theorem test_xs128_next_A17 :
    seen (exec .xs128Next (block ⟨0xDEADBEEF, 0x01234567, 0x89ABCDEF, 0xCAFEBABE⟩ ⟨5, 6⟩ [])) =
      some (⟨0x01234567, 0x89ABCDEF, 0xCAFEBABE, 0x79173FC8⟩, some 2031566792, ⟨5, 6⟩, none) := by decide
/-- Vector A4: the left shift loses bit 31, the right shift brings in zeros. -/
theorem test_xs128_next_A4 :
    seen (exec .xs128Next (block ⟨0x80000000, 0, 0, 0⟩ ⟨5, 6⟩ [])) =
      some (⟨0, 0, 0, 0x80800000⟩, some 2155872256, ⟨5, 6⟩, none) := by decide
/-- Vector H1. -/
theorem test_xs128_hold_H1 :
    seen (exec .xs128Hold (block ⟨1, 2, 3, 4⟩ ⟨5, 6⟩ [])) = some (⟨1, 2, 3, 4⟩, none, ⟨5, 6⟩, none) := by decide
/-- Vector B15: the sum wraps. -/
theorem test_xs128p_next_B15 :
    seen (exec .xs128pNext (block ⟨1, 2, 3, 4⟩ ⟨0x0123456789ABCDEF, 0xFEDCBA9876543210⟩ [])) =
      some (⟨1, 2, 3, 4⟩, none, ⟨0xFEDCBA9876543210, 0x4BCDE3742FED01E5⟩, some 5380286482013565941) := by decide
/-- Vector B10: the right shift of `s1` brings in zeros, the carry is lost. -/
theorem test_xs128p_next_B10 :
    seen (exec .xs128pNext (block ⟨1, 2, 3, 4⟩ ⟨0, 0x8000000000000000⟩ [])) =
      some (⟨1, 2, 3, 4⟩, none, ⟨0x8000000000000000, 0x8400000000000000⟩, some 0x0400000000000000) := by decide
/-- Vector H3. -/
theorem test_xs128p_hold_H3 :
    seen (exec .xs128pHold (block ⟨1, 2, 3, 4⟩ ⟨5, 6⟩ [])) = some (⟨1, 2, 3, 4⟩, none, ⟨5, 6⟩, none) := by decide
/-- Vectors H5 and H7 in one step: reset wins over the call, and is the way out of the zero state. -/
theorem test_reset_H5_H7 :
    seen (step (block ⟨1, 2, 3, 4⟩ ⟨0, 0⟩ [both pResetNext pResetNext])) =
      some (⟨0x075BCD15, 0x159A55E5, 0x1F123BB5, 0x05491333⟩, none,
            ⟨0x000000AD01A98A79, 0x38465C8A03374952⟩, none) := by decide
/-- Program P3, step 3: both engines step together, from the states its table gives. -/
theorem test_both_step_P3 :
    seen (step (block ⟨0x159A55E5, 0x1F123BB5, 0x05491333, 0xDCA345EA⟩ ⟨0x38465C8A03374952, 0x6F04AFA65B1D762B⟩
      [both pNext pNext])) =
      some (⟨0x1F123BB5, 0x05491333, 0xDCA345EA, 0x1B5116E6⟩, some 458299110,
            ⟨0x6F04AFA65B1D762B, 0x113B52A432397E45⟩, some 9241388954586379376) := by decide
/-- Vectors I1 and I2. -/
theorem test_inverse_I1_I2 :
    Xs128Regs.seed.retreat = ⟨0x92911A0E, 0x075BCD15, 0x159A55E5, 0x1F123BB5⟩ ∧
    Xs128pRegs.seed.retreat = ⟨0xFD869D8B819F70FF, 0x000000AD01A98A79⟩ := by decide
/-- Program P1, step 0, "Start state: none": the first reset, while the other engine waits. -/
theorem test_first_reset_P1 :
    step (State.beforeReset [both pReset pHold]) =
      .next { xs128 := .started { regs := ⟨0x075BCD15, 0x159A55E5, 0x1F123BB5, 0x05491333⟩, out := none, returned := [] },
              xs128p := .unstarted, pending := [] } := by rfl
/-- R129: a step in which neither engine has had its first reset, `HOLD` on both wires, is refused. -/
theorem test_hold_before_reset_refused :
    refusal (step (State.beforeReset [both pHold pHold])) = some .noRunBegun := by decide
/-- R129: no operation before the first reset has a meaning. -/
theorem test_operation_before_reset_refused :
    refusal (exec .xs128Next (State.beforeReset [])) = some (.beforeFirstReset .xs128) ∧
    refusal (exec .xs128pHold (State.beforeReset [])) = some (.beforeFirstReset .xs128p) := by decide
/-- R98, R129: the run of the engine called before its first reset is refused, the other engine's `NEXT` is not lost. -/
theorem test_call_before_reset_refuses_one_run :
    step { xs128 := .started { regs := ⟨0, 0, 0, 0⟩, out := none, returned := [] }, xs128p := .unstarted,
           pending := [both pNext pNext] } =
      .next { xs128 := .started { regs := ⟨0, 0, 0, 0⟩, out := some 0, returned := [0] }, xs128p := .refused,
              pending := [] } := by rfl
/-- R129: the refused run stays refused. -/
theorem test_refused_run_stays_refused :
    step { xs128 := .started { regs := ⟨0, 0, 0, 0⟩, out := none, returned := [] }, xs128p := .refused,
           pending := [both pHold pReset] } =
      .next { xs128 := .started { regs := ⟨0, 0, 0, 0⟩, out := none, returned := [] }, xs128p := .refused,
              pending := [] } := by rfl
/-- The host's word for the table row `XS128.NEXT` is run by the very next step after reset (R61, worked example). -/
theorem test_fetch_word_runs :
    seen (step (State.reset.withFetchWord 8 1)) =
      some (⟨0x159A55E5, 0x1F123BB5, 0x05491333, 0xDCA345EA⟩, some 3701687786,
            ⟨0x000000AD01A98A79, 0x38465C8A03374952⟩, none) := by decide
/-- The same for a word on the other engine's port (R76, worked example). -/
theorem test_command_on_xs128p_runs :
    seen (step (State.reset.withCommand .xs128p 1#1)) =
      some (⟨0x075BCD15, 0x159A55E5, 0x1F123BB5, 0x05491333⟩, none,
            ⟨0x38465C8A03374952, 0x6F04AFA65B1D762B⟩, some 12054742229467840381) := by decide

/-! ### Hypotheses that can be met -/

/-- Two running engines with something on the wires of two steps. -/
def sample : State := block ⟨1, 2, 3, 4⟩ ⟨5, 6⟩ [both pReset pNext, both pNext pHold]

/-- A running `XS128` beside an `XS128P` that has had no reset and is called in the next step. -/
def lonely : State := { sample with xs128p := .unstarted }

/-- A running `XS128P` beside an `XS128` whose run is refused. -/
def lonelyP : State := { sample with xs128 := .refused }

/-- Running engines, each by itself and both: the operations' statements, `NoOperationRaisesAnything`, `RunsNeverEnd`,
`ResetSparesTheOtherEngine`, `CoreIsTwoStandAloneEngines`, `EveryStepCompletes`. -/
theorem witness_started :
    sample.isStarted .xs128 = true ∧ sample.isStarted .xs128p = true ∧ lonely.isStarted .xs128 = true ∧
    lonelyP.isStarted .xs128p = true ∧ (∃ a, sample.xs128 = .started a) ∧ (∃ b, sample.xs128p = .started b) ∧
    (∃ a, lonely.xs128 = .started a) ∧ (∃ b, lonelyP.xs128p = .started b) :=
  ⟨rfl, rfl, rfl, rfl, ⟨_, rfl⟩, ⟨_, rfl⟩, ⟨_, rfl⟩, ⟨_, rfl⟩⟩

theorem witness_Running : sample.Running ∧ sample.Ready ∧
    sample.pending = both pReset pNext :: [both pNext pHold] := by decide

theorem witness_SpecWordsDecode : 0 < 1 ∧ 2 ≤ 2 := by decide

theorem witness_ProgramsComeBackFromTheWires :
    wfProgram [{ xs128 := .reset, xs128p := .op .xs128pNext }] = true ∧
    wfColumn .xs128p [.reset, .op .xs128pHold] = true := by decide

/-- Two first resets in one step: `StepPerformsWhatTheWiresSelect` and `EveryStepCompletes` hold there too. -/
theorem witness_Ready_at_first_reset : (State.beforeReset [both pReset pResetNext]).Ready := by decide

theorem witness_PlacedCommandRunsNext : sample.Running ∧ decodeTableWord 8 1 = some .xs128Next := by decide

theorem witness_NoHostInputMeansHold :
    State.reset.pending = [] ∧ State.reset.xs128 = .started .fresh ∧ State.reset.xs128p = .started .fresh := by decide

/-- `exec` answers a next state for each operation (`OnlyNextAndResetWriteRegisters`). -/
theorem witness_exec_next :
    (∃ t, exec .xs128Next sample = .next t) ∧ (∃ t, exec .xs128Hold sample = .next t) ∧
    (∃ t, exec .xs128pNext sample = .next t) ∧ (∃ t, exec .xs128pHold sample = .next t) :=
  ⟨⟨_, rfl⟩, ⟨_, rfl⟩, ⟨_, rfl⟩, ⟨_, rfl⟩⟩

/-- A sum that loses a carry and one that does not (`OutputSumDropsItsCarry`). -/
theorem witness_carries :
    Xs128pRegs.lostCarry ⟨0, 0x8000000000000000⟩ = true ∧ Xs128pRegs.lostCarry ⟨0, 1⟩ = false := by decide

theorem witness_AllOnesStatesWrap :
    ∃ (s : State) (a : Xs128) (b : Xs128p), s.xs128 = .started a ∧
      a.regs = ⟨0xFFFFFFFF, 0xFFFFFFFF, 0xFFFFFFFF, 0xFFFFFFFF⟩ ∧ s.xs128p = .started b ∧
      b.regs = ⟨0xFFFFFFFFFFFFFFFF, 0xFFFFFFFFFFFFFFFF⟩ :=
  ⟨block ⟨0xFFFFFFFF, 0xFFFFFFFF, 0xFFFFFFFF, 0xFFFFFFFF⟩ ⟨0xFFFFFFFFFFFFFFFF, 0xFFFFFFFFFFFFFFFF⟩ [],
    _, _, rfl, rfl, rfl, rfl⟩

/-- A first reset beside a call before the first reset, and a reset with the command bit at 1 in mid-run. -/
theorem witness_ResetStepConstructs :
    (∃ s : State, ∃ c rest, s.xs128 ≠ .refused ∧ s.pending = c :: rest ∧ c.xs128.rst = true) ∧
    (∃ s : State, ∃ c rest, s.xs128p ≠ .refused ∧ s.pending = c :: rest ∧ c.xs128p.rst = true) :=
  ⟨⟨State.beforeReset [both pReset pNext], _, _, by decide, rfl, rfl⟩,
   ⟨block ⟨1, 2, 3, 4⟩ ⟨5, 6⟩ [both pHold pResetNext], _, _, by decide, rfl, rfl⟩⟩

theorem witness_OneResetPerEngineBoots :
    (∃ s : State, ∃ c rest, s.xs128 ≠ .refused ∧ s.xs128p ≠ .refused ∧ s.pending = c :: rest ∧
      c.xs128.rst = true ∧ c.xs128p.rst = true) ∧
    (∃ s : State, ∃ n n' rest, s.xs128 ≠ .refused ∧ s.xs128p ≠ .refused ∧
      s.pending = { xs128 := { rst := true, next := n }, xs128p := .idle } ::
      { xs128 := .idle, xs128p := { rst := true, next := n' } } :: rest) ∧
    (∃ s : State, ∃ n n' rest, s.xs128 ≠ .refused ∧ s.xs128p ≠ .refused ∧
      s.pending = { xs128 := .idle, xs128p := { rst := true, next := n' } } ::
      { xs128 := { rst := true, next := n }, xs128p := .idle } :: rest) :=
  ⟨⟨block ⟨1, 2, 3, 4⟩ ⟨5, 6⟩ [both pReset pResetNext], _, _, by decide, by decide, rfl, rfl, rfl⟩,
   ⟨State.beforeReset [both pReset pHold, both pHold pResetNext], 0#1, 1#1, [], by decide, by decide, rfl⟩,
   ⟨State.beforeReset [both pHold pReset, both pResetNext pHold], 1#1, 0#1, [], by decide, by decide, rfl⟩⟩

/-- A step that is refused, by its one name (`OnlyStepsWithoutARunAreRefused`). -/
theorem witness_refused_step :
    step (State.beforeReset [both pNext pHold]) = .refused .noRunBegun := by rfl

/-- `step` answers a next state (`WordsArriveInOrder`, `OnlyNextAndResetWriteRegisters`, `StepKeepsTheInvariant`), with a
change of the registers of both engines. -/
theorem witness_step_next :
    ∃ (t : State) (a e : Xs128) (b f : Xs128p), step sample = .next t ∧ sample.xs128 = .started a ∧
      t.xs128 = .started e ∧ e.regs ≠ a.regs ∧ sample.xs128p = .started b ∧ t.xs128p = .started f ∧ f.regs ≠ b.regs :=
  ⟨_, _, _, _, _, rfl, rfl, rfl, by decide, rfl, rfl, by decide⟩

/-- The first reset of each engine begins its run (`OnlyNextAndResetWriteRegisters`). -/
theorem witness_run_begins :
    ∃ s t : State, step s = .next t ∧ s.isStarted .xs128 = false ∧ t.isStarted .xs128 = true ∧
      s.isStarted .xs128p = false ∧ t.isStarted .xs128p = true :=
  ⟨State.beforeReset [both pReset pReset], _, rfl, rfl, rfl, rfl, rfl⟩

/-- A step with each engine in its run, and one with each engine's first reset (`OutputPortsShowTheCall`). -/
theorem witness_OutputPortsShowTheCall :
    sample.pending = both pReset pNext :: [both pNext pHold] ∧ sample.xs128.hasRun true = true ∧
    sample.xs128p.hasRun false = true ∧ (State.beforeReset []).xs128.hasRun true = true ∧
    (State.beforeReset []).xs128p.hasRun true = true := by decide

theorem witness_nonzero : (⟨0, 0, 0, 1⟩ : Xs128Regs) ≠ .zero ∧ (⟨1, 0⟩ : Xs128pRegs) ≠ .zero := by decide

theorem witness_ZeroStatesAreIsolatedFixedPoints :
    (∃ (s : State) (a : Xs128) (b : Xs128p), s.xs128 = .started a ∧ a.regs = .zero ∧ s.xs128p = .started b ∧
      b.regs = .zero) ∧
    (∃ (s : State) (a : Xs128) (b : Xs128p), s.xs128 = .started a ∧ a.regs ≠ .zero ∧ s.xs128p = .started b ∧
      b.regs ≠ .zero) :=
  ⟨⟨block .zero .zero [], _, _, rfl, rfl, rfl, rfl⟩, ⟨sample, _, _, rfl, by decide, rfl, by decide⟩⟩

theorem witness_ZeroStateIsNeverReached : 2 ≤ [both pReset pNext, both pNext pHold].length := by decide

/-- The one sequence of R63, built by its recurrence alone. -/
def recurrence128 : Nat → Word32 × Word32 × Word32 × Word32
  | 0 => (123456789, 362436069, 521288629, 88675123)
  | n + 1 =>
    let (a, b, c, d) := recurrence128 n
    (b, c, d, d ^^^ (d >>> 19) ^^^ (a ^^^ (a <<< 11)) ^^^ ((a ^^^ (a <<< 11)) >>> 8))

theorem witness_Xs128OutputsObeyTheRecurrence :
    ∃ o : Nat → Word32, o 0 = 123456789 ∧ o 1 = 362436069 ∧ o 2 = 521288629 ∧ o 3 = 88675123 ∧
      ∀ n, o (n + 4) =
        (let T := o n ^^^ (o n <<< 11)
         o (n + 3) ^^^ (o (n + 3) >>> 19) ^^^ T ^^^ (T >>> 8)) :=
  ⟨fun n => (recurrence128 n).1, rfl, rfl, rfl, rfl, fun _ => rfl⟩

/-- The one sequence of R78, built by its recurrence alone. -/
def recurrence128p : Nat → Word64 × Word64
  | 0 => (743057230457, 4055030262322907474)
  | n + 1 =>
    let (a, b) := recurrence128p n
    (b, (a ^^^ (a <<< 23)) ^^^ b ^^^ ((a ^^^ (a <<< 23)) >>> 18) ^^^ (b >>> 5))

theorem witness_Xs128pOutputsObeyTheRecurrence :
    ∃ v : Nat → Word64, v 0 = 743057230457 ∧ v 1 = 4055030262322907474 ∧
      ∀ n, v (n + 2) =
        (let X := v n ^^^ (v n <<< 23)
         X ^^^ v (n + 1) ^^^ (X >>> 18) ^^^ (v (n + 1) >>> 5)) :=
  ⟨fun n => (recurrence128p n).1, rfl, rfl, fun _ => rfl⟩

/-- Two different machines that agree on one engine and its column, the one beside a running engine, the other beside one
that is called before its first reset, and for each clause a run that has begun or begins. -/
theorem witness_EnginesDoNotInterfere :
    ∃ s s' : State, 1 ≤ s.pending.length ∧ s.xs128 = s'.xs128 ∧ s.xs128p ≠ s'.xs128p ∧
      column .xs128 s.pending = column .xs128 s'.pending ∧ s.xs128.hasRun s.fetchInputs.xs128.rst = true ∧
      (∃ t, runSteps 1 s = .next t) ∧ (∃ t, runSteps 1 s' = .next t) ∧
      ∃ u u' : State, 1 ≤ u.pending.length ∧ u.xs128p = u'.xs128p ∧ u.xs128 ≠ u'.xs128 ∧
        column .xs128p u.pending = column .xs128p u'.pending ∧ u.xs128p.hasRun u.fetchInputs.xs128p.rst = true ∧
        (∃ t, runSteps 1 u = .next t) ∧ (∃ t, runSteps 1 u' = .next t) :=
  ⟨block ⟨1, 2, 3, 4⟩ ⟨5, 6⟩ [both pNext pReset],
   { block ⟨1, 2, 3, 4⟩ ⟨5, 6⟩ [both pNext pNext] with xs128p := .unstarted },
   by decide, by decide, by decide, by decide, by decide, ⟨_, rfl⟩, ⟨_, rfl⟩,
   { block ⟨1, 2, 3, 4⟩ ⟨5, 6⟩ [both pReset pReset] with xs128p := .unstarted },
   State.beforeReset [both pHold pReset],
   by decide, by decide, by decide, by decide, by decide, ⟨_, rfl⟩, ⟨_, rfl⟩⟩

/-- The same engine with and without `HOLD`s on its wires. -/
theorem witness_HoldsAreTransparent :
    ∃ (s s' : State) (a a' : Xs128) (b b' : Xs128p), s.xs128 = .started a ∧ s'.xs128 = .started a' ∧
      a.regs = a'.regs ∧ a.returned = a'.returned ∧ s.xs128p = .started b ∧ s'.xs128p = .started b' ∧
      b.regs = b'.regs ∧ b.returned = b'.returned ∧ s.pending.length ≠ s'.pending.length ∧
      withoutHolds (column .xs128 s.pending) = withoutHolds (column .xs128 s'.pending) ∧
      withoutHolds (column .xs128p s.pending) = withoutHolds (column .xs128p s'.pending) :=
  ⟨block ⟨1, 2, 3, 4⟩ ⟨5, 6⟩ [both pNext pNext], block ⟨1, 2, 3, 4⟩ ⟨5, 6⟩ [both pHold pNext, both pNext pHold],
   _, _, _, _, rfl, rfl, rfl, rfl, rfl, rfl, rfl, rfl, by decide, by decide, by decide⟩

/-- A reset of both engines in the middle of a run, then calls and a `HOLD`. -/
theorem witness_RunsFollowTheOneSequence :
    ∃ (s : State) (c : CoreInputs) (after : List CoreInputs), s.xs128 ≠ .refused ∧ s.xs128p ≠ .refused ∧
      s.pending = c :: after ∧
      c.xs128.rst = true ∧ (∀ p ∈ column .xs128 after, p.rst = false) ∧ nextCount (column .xs128 after) = 2 ∧
      c.xs128p.rst = true ∧ (∀ p ∈ column .xs128p after, p.rst = false) ∧
      nextCount (column .xs128p after) = 1 :=
  ⟨block ⟨1, 2, 3, 4⟩ ⟨5, 6⟩ [both pReset pResetNext, both pNext pHold, both pNext pNext],
   both pReset pResetNext, [both pNext pHold, both pNext pNext],
   by decide, by decide, by decide, by decide, by decide, by decide, by decide, by decide, by decide⟩

/-- The other way a run may begin: with the engine's first reset, beside an engine called before its own. -/
theorem witness_RunsFollowTheOneSequence_first_reset :
    ∃ (s : State) (c : CoreInputs) (after : List CoreInputs), s.isStarted .xs128 = false ∧ s.xs128 ≠ .refused ∧
      s.pending = c :: after ∧ c.xs128.rst = true ∧ c.xs128p.isNext = true ∧
      (∀ p ∈ column .xs128 after, p.rst = false) :=
  ⟨State.beforeReset [both pReset pNext, both pNext pHold], both pReset pNext, [both pNext pHold],
   by decide, by decide, rfl, rfl, rfl, by decide⟩

/-- K = 1, L = 1 with a pause of one step, and the fresh instance of two calls, for either engine, with the ignored command
bit of a reset step at 1 and at 0. -/
theorem witness_SequenceLengthIndependence :
    ∃ s u : State, s.xs128 ≠ .refused ∧ s.xs128p ≠ .refused ∧ u.xs128 ≠ .refused ∧ u.xs128p ≠ .refused ∧
      column .xs128 s.pending = { rst := true, next := 1#1 } :: (List.replicate 1 { rst := false, next := 1#1 } ++
        List.replicate 1 { rst := false, next := 0#1 } ++ List.replicate 1 { rst := false, next := 1#1 }) ∧
      column .xs128p s.pending = { rst := true, next := 0#1 } :: (List.replicate 1 { rst := false, next := 1#1 } ++
        List.replicate 1 { rst := false, next := 0#1 } ++ List.replicate 1 { rst := false, next := 1#1 }) ∧
      column .xs128 u.pending = { rst := true, next := 0#1 } :: List.replicate 2 { rst := false, next := 1#1 } ∧
      column .xs128p u.pending = { rst := true, next := 1#1 } :: List.replicate 2 { rst := false, next := 1#1 } :=
  ⟨block ⟨1, 2, 3, 4⟩ ⟨5, 6⟩ [both pResetNext pReset, both pNext pNext, both pHold pHold, both pNext pNext],
   State.beforeReset [both pReset pResetNext, both pNext pNext, both pNext pNext],
   by decide, by decide, by decide, by decide, by decide, by decide, by decide, by decide⟩

theorem witness_OperationsOfTwoEnginesCommute :
    Instr.xs128Next.engine ≠ Instr.xs128pNext.engine ∧ sample.Running := by decide

/-- A state that meets the invariant with a word on each output port. -/
theorem witness_StepKeepsTheInvariant :
    ∃ (s t : State) (a : Xs128) (b : Xs128p), s.Inv ∧ s.xs128 = .started a ∧ a.out = some 1 ∧
      s.xs128p = .started b ∧ b.out = some 3 ∧ step s = .next t :=
  ⟨{ xs128 := .started { regs := ⟨0, 0, 0, 1⟩, out := some 1, returned := [7, 1] },
     xs128p := .started { regs := ⟨1, 2⟩, out := some 3, returned := [3] },
     pending := [both pNext pNext] }, _, _, _,
   ⟨fun e h => (by cases h; exact ⟨by decide, by simp, by simp⟩),
    fun e h => (by cases h; exact ⟨by decide, by simp, by simp⟩)⟩, rfl, rfl, rfl, rfl, rfl⟩

/-- Each of the cases of `NothingRunsBeforeTheFirstReset`: an operation before the first reset; a run beside an engine that
is called, that waits, and whose run is refused. -/
theorem witness_NothingRunsBeforeTheFirstReset :
    (State.beforeReset []).isStarted Instr.xs128Hold.engine = false ∧
    (∃ c rest, lonely.pending = c :: rest ∧ lonely.xs128.hasRun c.xs128.rst = true ∧ lonely.xs128p = .unstarted ∧
      c.xs128p.rst = false ∧ c.xs128p.next = 1#1) ∧
    (∃ (s : State) (c : CoreInputs) (rest : List CoreInputs), s.pending = c :: rest ∧
      s.xs128p.hasRun c.xs128p.rst = true ∧ s.xs128 = .unstarted ∧ c.xs128.rst = false ∧ c.xs128.next = 0#1) ∧
    (∃ c rest, lonelyP.pending = c :: rest ∧ lonelyP.xs128p.hasRun c.xs128p.rst = true ∧ lonelyP.xs128 = .refused) :=
  ⟨rfl, ⟨_, _, rfl, rfl, rfl, rfl, rfl⟩,
   ⟨State.beforeReset [both pHold pReset], _, _, rfl, rfl, rfl, rfl, rfl⟩, ⟨_, _, rfl, rfl, rfl⟩⟩

end Sys2Proof.Tests
end

/-! PROOFS, 10_state: the seeds after reset (R15, R16), and the all-zero states (R24, R25).

A word equal to its own shift is zero, so `v xor (v shifted)` is zero on the zero word alone, and `NEXT` leads to the
all-zero registers from the all-zero registers alone. -/

namespace Sys2Proof.Machine

/-! ### The arithmetic: a word that equals its own shift -/

/-- Bit `i` of `v` is bit `i - k` of `v`, and so on down to a bit below `k`, where the shift puts a zero. -/
theorem eq_zero_of_eq_shlW {n k : Nat} {v : BitVec n} (hk : 0 < k) (h : v = shlW v k) : v = 0#n := by
  have bit (i : Nat) : v.getLsbD i = false := by
    induction i using Nat.strong_induction_on with
    | _ i ih =>
      rw [h, shlW_eq, BitVec.getLsbD_shiftLeft]
      by_cases hik : i < k
      · simp [hik]
      · simp [ih (i - k) (by omega)]
  exact BitVec.eq_of_getLsbD_eq fun i _ => by simp [bit i]

/-- As a natural number `v` is its own quotient by `2 ^ k`. -/
theorem eq_zero_of_eq_lshrW {n k : Nat} {v : BitVec n} (hk : 0 < k) (h : v = lshrW v k) : v = 0#n := by
  have hdiv : v.toNat / 2 ^ k = v.toNat := by
    rw [← Nat.shiftRight_eq_div_pow, ← BitVec.toNat_ushiftRight, ← lshrW_eq, ← h]
  have hpow : 2 ^ k ≠ 1 := (Nat.one_lt_two_pow hk.ne').ne'
  exact BitVec.eq_of_toNat_eq (by simpa using (Nat.div_eq_self.1 hdiv).resolve_right hpow)

@[simp] theorem shlW_zero (n k : Nat) : shlW 0#n k = 0#n := by simp [shlW_eq]
@[simp] theorem lshrW_zero (n k : Nat) : lshrW 0#n k = 0#n := by simp [lshrW_eq]
@[simp] theorem xorW_zero {n : Nat} (v : BitVec n) : xorW v 0#n = v := by simp [xorW_eq]
@[simp] theorem zero_xorW {n : Nat} (v : BitVec n) : xorW 0#n v = v := by simp [xorW_eq]

theorem xorW_shlW_eq_zero_iff {n k : Nat} {v : BitVec n} (hk : 0 < k) : xorW v (shlW v k) = 0#n ↔ v = 0#n :=
  ⟨fun h => eq_zero_of_eq_shlW hk (BitVec.xor_eq_zero_iff.1 h), fun h => by simp [h]⟩

theorem xorW_lshrW_eq_zero_iff {n k : Nat} {v : BitVec n} (hk : 0 < k) : xorW v (lshrW v k) = 0#n ↔ v = 0#n :=
  ⟨fun h => eq_zero_of_eq_lshrW hk (BitVec.xor_eq_zero_iff.1 h), fun h => by simp [h]⟩

/-! ### The advance of each engine and its all-zero registers -/

/-- With `w` = 0 the word is `t xor (t >> 8)` with `t = x xor (x << 11)` (R61). -/
theorem xs128Word_zero_right_eq_zero_iff (x : Word32) : xs128Word x 0#32 = 0#32 ↔ x = 0#32 := by
  have hword : xs128Word x 0#32 =
      xorW (xorW x (shlW x xs128ShiftX)) (lshrW (xorW x (shlW x xs128ShiftX)) xs128ShiftT) := by
    simp [xs128Word]
  rw [hword, xorW_lshrW_eq_zero_iff (by decide), xorW_shlW_eq_zero_iff (by decide)]

/-- With `s1` = 0 the word is `x1 xor (x1 >> 18)` with `x1 = s0 xor (s0 << 23)` (R76). -/
theorem xs128pWord_zero_right_eq_zero_iff (s0 : Word64) : xs128pWord s0 0#64 = 0#64 ↔ s0 = 0#64 := by
  have hword : xs128pWord s0 0#64 =
      xorW (xorW s0 (shlW s0 xs128pShiftS0)) (lshrW (xorW s0 (shlW s0 xs128pShiftS0)) xs128pShiftX1) := by
    simp [xs128pWord]
  rw [hword, xorW_lshrW_eq_zero_iff (by decide), xorW_shlW_eq_zero_iff (by decide)]

theorem Xs128Regs.eq_zero_iff (r : Xs128Regs) : r = .zero ↔ r.x = 0#32 ∧ r.y = 0#32 ∧ r.z = 0#32 ∧ r.w = 0#32 :=
  Xs128Regs.ext_iff

theorem Xs128pRegs.eq_zero_iff (r : Xs128pRegs) : r = .zero ↔ r.s0 = 0#64 ∧ r.s1 = 0#64 :=
  Xs128pRegs.ext_iff

/-- R24: the all-zero registers are the one state that `XS128.NEXT` sends to them. -/
theorem Xs128Regs.advance_eq_zero_iff (r : Xs128Regs) : r.advance = .zero ↔ r = .zero := by
  rw [eq_zero_iff, eq_zero_iff, advance_x, advance_y, advance_z, advance_w]
  constructor
  · rintro ⟨hy, hz, hw, hword⟩
    rw [hw, xs128Word_zero_right_eq_zero_iff] at hword
    exact ⟨hword, hy, hz, hw⟩
  · rintro ⟨hx, hy, hz, hw⟩
    exact ⟨hy, hz, hw, by rw [hw, xs128Word_zero_right_eq_zero_iff, hx]⟩

/-- R25: the all-zero registers are the one state that `XS128P.NEXT` sends to them. -/
theorem Xs128pRegs.advance_eq_zero_iff (r : Xs128pRegs) : r.advance = .zero ↔ r = .zero := by
  rw [eq_zero_iff, eq_zero_iff, advance_s0, advance_s1]
  constructor
  · rintro ⟨hs1, hword⟩
    rw [hs1, xs128pWord_zero_right_eq_zero_iff] at hword
    exact ⟨hword, hs1⟩
  · rintro ⟨hs0, hs1⟩
    exact ⟨hs1, by rw [hs1, xs128pWord_zero_right_eq_zero_iff, hs0]⟩

theorem Xs128Regs.output_zero : Xs128Regs.zero.output = 0 := by
  rw [output_eq, (advance_eq_zero_iff _).2 rfl]; rfl

theorem Xs128pRegs.output_zero : Xs128pRegs.zero.output = 0 := by
  rw [output_eq, (advance_eq_zero_iff _).2 rfl]; rfl

/-! ### `NEXT` on an engine whose run has begun -/

theorem exec_xs128Next_started {s : State} {a : Xs128} (h : s.xs128 = .started a) :
    exec .xs128Next s = .next (s.setXs128 (.started a.next)) :=
  State.onXs128_started Xs128.next h

theorem exec_xs128pNext_started {s : State} {b : Xs128p} (h : s.xs128p = .started b) :
    exec .xs128pNext s = .next (s.setXs128p (.started b.next)) :=
  State.onXs128p_started Xs128p.next h

/-! ### The obligations -/

/-- Settles O36: `NEXT` of a running engine advances its registers, and the advance reaches the all-zero registers from
themselves alone. -/
theorem zeroStatesAreIsolatedFixedPoints : Obligations.ZeroStatesAreIsolatedFixedPoints := by
  refine ⟨fun s a h => ⟨_, a.next, exec_xs128Next_started h, rfl, fun hzero => ⟨?_, ?_⟩, fun hne => ?_⟩,
    fun s b h => ⟨_, b.next, exec_xs128pNext_started h, rfl, fun hzero => ⟨?_, ?_⟩, fun hne => ?_⟩⟩
  · rwa [Xs128.next_regs, Xs128Regs.advance_eq_zero_iff]
  · rw [Xs128.next_out, hzero, Xs128Regs.output_zero]
  · rwa [Xs128.next_regs, Ne, Xs128Regs.advance_eq_zero_iff]
  · rwa [Xs128p.next_regs, Xs128pRegs.advance_eq_zero_iff]
  · rw [Xs128p.next_out, hzero, Xs128pRegs.output_zero]
  · rwa [Xs128p.next_regs, Ne, Xs128pRegs.advance_eq_zero_iff]

/-- Settles O21: both engines are fresh in `State.reset`, and a fresh engine's registers are the seeds of R15 and
R16. -/
theorem resetStateHoldsTheSeeds : Obligations.ResetStateHoldsTheSeeds :=
  ⟨⟨.fresh, rfl, rfl, rfl, rfl, rfl⟩, ⟨.fresh, rfl, rfl, rfl⟩⟩

end Sys2Proof.Machine

/-! PROOFS, 30_encoding: the opcode map (R52, R53, R58), the pseudo-instructions (R56), what a step performs (R48) and the
output ports (R57). -/

namespace Sys2Proof

/-! ### The decoder, the encoder and the wires -/

theorem command_eq_zero_or_one (c : Command) : c = 0#1 ∨ c = 1#1 :=
  (em (c = 1#1)).symm.imp_left Machine.command_eq_zero_of_ne_one

@[simp] theorem decode_one (e : Engine) : decode e 1#1 = e.nextInstr := by cases e <;> rfl
@[simp] theorem decode_zero (e : Engine) : decode e 0#1 = e.holdInstr := by cases e <;> rfl

@[simp] theorem Engine.engine_nextInstr (e : Engine) : e.nextInstr.engine = e := by cases e <;> rfl
@[simp] theorem Engine.engine_holdInstr (e : Engine) : e.holdInstr.engine = e := by cases e <;> rfl

/-- A command word never reaches the other engine (R50). -/
@[simp] theorem engine_decode (e : Engine) (c : Command) : (decode e c).engine = e := by
  obtain rfl | rfl := command_eq_zero_or_one c <;> simp

@[simp] theorem encode_nextInstr (e : Engine) : encode e.nextInstr = 1#1 := by cases e <;> rfl
@[simp] theorem encode_holdInstr (e : Engine) : encode e.holdInstr = 0#1 := by cases e <;> rfl

@[simp] theorem encodeItem_op (i : Instr) : encodeItem (.op i) = { rst := false, next := encode i } := rfl

@[simp] theorem encodeColumn_cons (x : ColumnItem) (col : List ColumnItem) :
    encodeColumn (x :: col) = encodeItem x :: encodeColumn col := rfl

@[simp] theorem encodeColumn_replicate (k : Nat) (x : ColumnItem) :
    encodeColumn (List.replicate k x) = List.replicate k (encodeItem x) :=
  List.map_replicate

@[simp] theorem Pseudo.expand_nextTimes (e : Engine) (k : Nat) :
    Pseudo.expand e (.nextTimes k) = List.replicate k (.op e.nextInstr) := rfl
@[simp] theorem Pseudo.expand_holdTimes (e : Engine) (k : Nat) :
    Pseudo.expand e (.holdTimes k) = List.replicate k (.op e.holdInstr) := rfl

/-- A `RESET`, then `k` calls: the shape of the driver's loop (R56). -/
theorem expandColumn_reset_nextTimes (e : Engine) (k : Nat) :
    expandColumn e [.reset, .nextTimes k] = .reset :: List.replicate k (.op e.nextInstr) := by
  simp [expandColumn, Pseudo.expand]

theorem Pins.isNext_iff (p : Pins) : p.isNext = true ↔ p.rst = false ∧ p.next = 1#1 := by
  simp [Pins.isNext]

theorem decodePins_of_rst {p : Pins} (e : Engine) (h : p.rst = true) : decodePins e p = .reset := by
  simp [decodePins, h]

theorem decodePins_of_not_rst {p : Pins} (e : Engine) (h : p.rst = false) :
    decodePins e p = .op (decode e p.next) := by
  simp [decodePins, h]

end Sys2Proof

namespace Sys2Proof.Machine

/-! ### What one engine performs in a step -/

/-- An operation completes on every state of its own engine (R53, R58). -/
theorem exec_completes {i : Instr} {s : State} (h : s.isStarted i.engine = true) : ∃ t, exec i s = .next t := by
  cases i with
  | xs128Next | xs128Hold =>
    obtain ⟨a, ha⟩ := Lifecycle.isStarted_iff.1 h
    exact ⟨_, State.onXs128_started _ ha⟩
  | xs128pNext | xs128pHold =>
    obtain ⟨b, hb⟩ := Lifecycle.isStarted_iff.1 h
    exact ⟨_, State.onXs128p_started _ hb⟩

/-- Without a reset an engine has a run in a step only if it has begun before (R129). -/
@[simp] theorem Lifecycle.hasRun_false {α : Type} (l : Lifecycle α) : l.hasRun false = l.isStarted := by
  cases l <;> rfl

/-- An engine with a run is reset if its reset wire is 1, and otherwise performs the operation its command bit decodes to
(R48). -/
theorem perform_selects {e : Engine} {p : Pins} {s m : State} (hrun : p.rst = false → s.isStarted e = true)
    (h : perform e p s = .next m) :
    if p.rst then m = s.resetEngine e else exec (decode e p.next) s = .next m := by
  cases hr : p.rst with
  | true =>
    rw [perform, decodePins_of_rst e hr] at h
    cases h
    rfl
  | false =>
    rw [perform, decodePins_of_not_rst e hr] at h
    simpa [hrun hr] using h

/-! ### The output ports after a step -/

/-- An engine with a run has one after the step: the fresh one at its first reset, else what the running engine becomes. -/
theorem Lifecycle.after_cases {α : Type} {l : Lifecycle α} {p : Pins} (fresh : α) (f : α → Pins → α)
    (h : l.hasRun p.rst = true) :
    (l = .unstarted ∧ p.rst = true ∧ l.after fresh f p = .started fresh) ∨
    (∃ a, l = .started a ∧ l.after fresh f p = .started (f a p)) := by
  cases l with
  | unstarted =>
    rw [hasRun_unstarted] at h
    exact .inl ⟨rfl, h, by simp [Lifecycle.after, h]⟩
  | started a => exact .inr ⟨a, rfl, rfl⟩
  | refused => cases h

theorem Xs128.out_after (a : Xs128) (p : Pins) :
    (a.after p).out = if p.isNext then some a.regs.output else none := by
  cases hr : p.rst <;> by_cases hn : p.next = 1#1 <;> simp [Xs128.after, Pins.isNext, hr, hn]

theorem Xs128p.out_after (b : Xs128p) (p : Pins) :
    (b.after p).out = if p.isNext then some b.regs.output else none := by
  cases hr : p.rst <;> by_cases hn : p.next = 1#1 <;> simp [Xs128p.after, Pins.isNext, hr, hn]

/-- A step appends the word on `out`, if any, to the words returned (R37). -/
theorem Xs128.returned_after (a : Xs128) (p : Pins) :
    (a.after p).returned = a.returned ++ (a.after p).out.toList := by
  unfold Xs128.after
  split_ifs <;> simp

/-- A step appends the word on `out`, if any, to the words returned (R37). -/
theorem Xs128p.returned_after (b : Xs128p) (p : Pins) :
    (b.after p).returned = b.returned ++ (b.after p).out.toList := by
  unfold Xs128p.after
  split_ifs <;> simp

theorem Xs128.outValid_after (a : Xs128) (p : Pins) : (a.after p).outValid = p.isNext := by
  cases h : p.isNext <;> simp [Xs128.outValid, Xs128.out_after, h]

theorem Xs128p.outValid_after (b : Xs128p) (p : Pins) : (b.after p).outValid = p.isNext := by
  cases h : p.isNext <;> simp [Xs128p.outValid, Xs128p.out_after, h]

theorem Xs128.out_eq_none_of_not_outValid {a : Xs128} (h : a.outValid = false) : a.out = none := by
  simpa [Xs128.outValid] using h

theorem Xs128p.out_eq_none_of_not_outValid {b : Xs128p} (h : b.outValid = false) : b.out = none := by
  simpa [Xs128p.outValid] using h

/-! ### The obligations -/

/-- Settles O6: a repeated operation encodes item by item. -/
theorem pseudoInstructionsEncode : Obligations.PseudoInstructionsEncode := by
  refine ⟨fun e k => ⟨?_, ?_, ?_, ?_⟩, fun e => ⟨rfl, rfl⟩, fun e => ⟨?_, 0#1, ?_⟩⟩
  · rw [Pseudo.expand_nextTimes, encodeColumn_replicate, encodeItem_op, encode_nextInstr]
  · rw [Pseudo.expand_holdTimes, encodeColumn_replicate, encodeItem_op, encode_holdInstr]
  · rw [Pseudo.expand_nextTimes, decode_one]
  · rw [Pseudo.expand_holdTimes, decode_zero]
  · rw [expandColumn_reset_nextTimes, decode_one]
  · rw [expandColumn_reset_nextTimes, encodeColumn_cons, encodeColumn_replicate, encodeItem_op, encode_nextInstr]
    rfl

/-- Settles O29: an engine with a run is after the step the fresh one, at its first reset, with no word on its port, or
what its wires make of the running engine, which shows a word exactly at a call. -/
theorem outputPortsShowTheCall : Obligations.OutputPortsShowTheCall := by
  constructor
  · intro s c rest hp hrun
    obtain rfl := State.fetchInputs_cons hp
    have hstep : step s = .next s.after := step_next_iff.2 ⟨.inl hrun, rfl⟩
    obtain ⟨hl, hr, ha⟩ | ⟨a, hl, ha⟩ := Lifecycle.after_cases .fresh Xs128.after hrun
    · exact ⟨_, .fresh, hstep, ha, by simp [hr, Xs128.outValid, Xs128.fresh], nofun,
        Xs128.out_eq_none_of_not_outValid, by simp [State.words128, hl, Xs128.fresh]⟩
    · refine ⟨_, a.after s.fetchInputs.xs128, hstep, ha, ?_, fun hv => ⟨a, hl, ?_⟩,
        Xs128.out_eq_none_of_not_outValid, ?_⟩
      · rw [Xs128.outValid_after, Pins.isNext_iff]
      · rw [Xs128.outValid_after] at hv
        rw [Xs128.out_after, if_pos hv, Xs128Regs.output_eq]
      · rw [Xs128.returned_after, State.words128, hl]
  · intro s c rest hp hrun
    obtain rfl := State.fetchInputs_cons hp
    have hstep : step s = .next s.after := step_next_iff.2 ⟨.inr hrun, rfl⟩
    obtain ⟨hl, hr, ha⟩ | ⟨b, hl, ha⟩ := Lifecycle.after_cases .fresh Xs128p.after hrun
    · exact ⟨_, .fresh, hstep, ha, by simp [hr, Xs128p.outValid, Xs128p.fresh], nofun,
        Xs128p.out_eq_none_of_not_outValid, by simp [State.words128p, hl, Xs128p.fresh]⟩
    · refine ⟨_, b.after s.fetchInputs.xs128p, hstep, ha, ?_, fun hv => ⟨b, hl, ?_⟩,
        Xs128p.out_eq_none_of_not_outValid, ?_⟩
      · rw [Xs128p.outValid_after, Pins.isNext_iff]
      · rw [Xs128p.outValid_after] at hv
        rw [Xs128p.out_after, if_pos hv, Xs128pRegs.output_eq]
      · rw [Xs128p.returned_after, State.words128p, hl]

/-- Settles O1: the selection is read off the table for each port and each of the two command words. -/
theorem opcodeMapSelectsOneRow : Obligations.OpcodeMapSelectsOneRow := by
  refine ⟨rfl, fun i => ?_, fun e c => ?_⟩
  · cases i <;> decide
  · obtain rfl | rfl := command_eq_zero_or_one c <;> cases e <;> rfl

/-- Settles O3: the decoded operation is the port's own engine's, and an operation completes on every state of its
engine. -/
theorem everyCommandWordRuns : Obligations.EveryCommandWordRuns :=
  fun e c => ⟨engine_decode e c, fun _ h => exec_completes (by rwa [engine_decode])⟩

/-- Settles O7: a step performs the part of `XS128`, then that of `XS128P`, and each part is what the engine's wires
select. -/
theorem stepPerformsWhatTheWiresSelect : Obligations.StepPerformsWhatTheWiresSelect := by
  rintro s c rest ⟨hrun, hrunp⟩ hp
  obtain rfl := State.fetchInputs_cons hp
  have hpop : ({ s with pending := rest } : State) = s.popInputs := by simp [State.popInputs, hp]
  rw [hpop]
  refine ⟨_, s.after, perform_selects (fun hr => ?_) (perform_xs128 _ _),
    perform_selects (fun hr => ?_) (perform_xs128p _ _), step_next_iff.2 ⟨.inl hrun, rfl⟩⟩
  · rwa [hr, Lifecycle.hasRun_false] at hrun
  · rwa [hr, Lifecycle.hasRun_false] at hrunp

end Sys2Proof.Machine

/-! PROOFS, 40_xorshift128: the two operations (R61, R62), the recurrence of the outputs (R63) and the linearity of
`NEXT` (R65). -/

namespace Sys2Proof.Machine

/-! ### Shifts distribute over `xor` -/

theorem shlW_xorW {n : Nat} (a b : BitVec n) (k : Nat) : shlW (xorW a b) k = xorW (shlW a k) (shlW b k) :=
  BitVec.shiftLeft_xor_distrib a b k

theorem lshrW_xorW {n : Nat} (a b : BitVec n) (k : Nat) : lshrW (xorW a b) k = xorW (lshrW a k) (lshrW b k) :=
  BitVec.ushiftRight_xor_distrib a b k

/-! ### The word of `XS128.NEXT` -/

/-- The formula of R61, with `t` = `x xor x << 11`. -/
theorem xs128Word_eq (x w : Word32) :
    xs128Word x w = (w ^^^ (w >>> 19)) ^^^ ((x ^^^ (x <<< 11)) ^^^ ((x ^^^ (x <<< 11)) >>> 8)) := rfl

/-- The word is a `xor` of shifts of `x` and of `w`, and each of them distributes over `xor`. -/
theorem xs128Word_xorW (x x' w w' : Word32) :
    xs128Word (xorW x x') (xorW w w') = xorW (xs128Word x w) (xs128Word x' w') := by
  simp only [xs128Word, shlW_xorW, lshrW_xorW]
  simp only [xorW_eq]
  ac_rfl

theorem Xs128Regs.advance_xorWith (a b : Xs128Regs) : (a.xorWith b).advance = a.advance.xorWith b.advance :=
  Xs128Regs.ext rfl rfl rfl (xs128Word_xorW a.x b.x a.w b.w)

/-! ### The one sequence of `XS128` -/

@[simp] theorem xs128After_zero : xs128After 0 = .seed := rfl
theorem xs128After_succ (k : Nat) : xs128After (k + 1) = (xs128After k).advance := rfl

/-- The output of a step is the newest register after it. -/
theorem xs128Output_eq (k : Nat) : xs128Output k = (xs128After (k + 1)).w := rfl

/-! ### `HOLD` on an engine whose run has begun -/

theorem exec_xs128Hold_started {s : State} {a : Xs128} (h : s.xs128 = .started a) :
    exec .xs128Hold s = .next (s.setXs128 (.started a.hold)) :=
  State.onXs128_started Xs128.hold h

/-! ### The obligations -/

/-- Settles O34: the state map is linear, and the output is a register of the post-state. -/
theorem xs128StepIsLinear : Obligations.Xs128StepIsLinear := by
  intro a b
  refine ⟨Xs128Regs.advance_xorWith a b, ?_⟩
  rw [Xs128Regs.output_eq, Xs128Regs.advance_xorWith]
  rfl

/-- Settles O38, by induction on the number of `NEXT`s: an advance drops the oldest register and appends the next term of
the recurrence. -/
theorem xs128OutputsObeyTheRecurrence : Obligations.Xs128OutputsObeyTheRecurrence := by
  intro o h0 h1 h2 h3 hrec
  have hword (n : Nat) : xs128Word (o n) (o (n + 3)) = o (n + 4) := by
    rw [hrec, xs128Word_eq, BitVec.xor_assoc (_ ^^^ _)]
  have hstate (k : Nat) : xs128After k = { x := o k, y := o (k + 1), z := o (k + 2), w := o (k + 3) } := by
    induction k with
    | zero => rw [xs128After_zero, h0, h1, h2, h3]; rfl
    | succ k ih =>
      rw [xs128After_succ, ih]
      exact Xs128Regs.ext rfl rfl rfl (hword k)
  exact fun k => ⟨hstate k, by rw [xs128Output_eq, hstate]⟩

/-- Settles O10: a running engine's `NEXT` leaves the rest of the block, and its word is the formula of R61. -/
theorem xs128NextAdvances : Obligations.Xs128NextAdvances := by
  refine ⟨decode_one .xs128, fun s a h => ?_⟩
  rw [exec_xs128Next_started h, Xs128.next, Xs128Regs.output_eq, Xs128Regs.advance, xs128Word_eq]
  rfl

/-- Settles O11: a running engine's `HOLD` leaves all but the `out` port. -/
theorem xs128HoldKeepsEverything : Obligations.Xs128HoldKeepsEverything :=
  ⟨decode_zero .xs128, fun _ _ h => exec_xs128Hold_started h⟩

end Sys2Proof.Machine

/-! PROOFS, 41_xorshift128plus: the two operations (R76, R77), the recurrence of the states (R78), and what of `NEXT` is
linear and what is not (R80). -/

namespace Sys2Proof.Machine

/-! ### The word of `XS128P.NEXT` -/

/-- The formula of R76, with `x1` = `s0 xor s0 << 23`. -/
theorem xs128pWord_eq (s0 s1 : Word64) :
    xs128pWord s0 s1 = (s0 ^^^ (s0 <<< 23)) ^^^ s1 ^^^ ((s0 ^^^ (s0 <<< 23)) >>> 18) ^^^ (s1 >>> 5) := rfl

theorem xorW_xorW_xorW_comm {n : Nat} (a b c d : BitVec n) :
    xorW (xorW a b) (xorW c d) = xorW (xorW a c) (xorW b d) := by
  simp only [xorW_eq]
  ac_rfl

/-- The word is a `xor` of shifts of `x1` and of `s1`. Each shift distributes over `xor`, and the parts of the two states
are sorted apart, first in `x1`, then in the word from its inner `xor` outwards. -/
theorem xs128pWord_xorW (s0 s0' s1 s1' : Word64) :
    xs128pWord (xorW s0 s0') (xorW s1 s1') = xorW (xs128pWord s0 s1) (xs128pWord s0' s1') := by
  simp only [xs128pWord]
  rw [shlW_xorW, xorW_xorW_xorW_comm s0, lshrW_xorW (xorW s0 _), lshrW_xorW s1, xorW_xorW_xorW_comm _ _ s1,
    xorW_xorW_xorW_comm (xorW _ s1), xorW_xorW_xorW_comm (xorW (xorW _ s1) _)]

theorem Xs128pRegs.advance_xorWith (a b : Xs128pRegs) : (a.xorWith b).advance = a.advance.xorWith b.advance :=
  Xs128pRegs.ext rfl (xs128pWord_xorW a.s0 b.s0 a.s1 b.s1)

/-- From `(0, 1)` the sum is 1 + 1, whose carry into bit 1 is no `xor`; beside `(1, 0)` bit 0 of the new word is cancelled
and there is no carry. -/
theorem Xs128pRegs.output_xorWith_ne :
    (xorWith ⟨1, 0⟩ ⟨0, 1⟩).output ≠ (⟨1, 0⟩ : Xs128pRegs).output ^^^ (⟨0, 1⟩ : Xs128pRegs).output := by
  decide

/-! ### The one sequence of `XS128P` -/

@[simp] theorem xs128pAfter_zero : xs128pAfter 0 = .seed := rfl
theorem xs128pAfter_succ (k : Nat) : xs128pAfter (k + 1) = (xs128pAfter k).advance := rfl

/-- The output of a step is the sum of the registers after it. -/
theorem xs128pOutput_eq (k : Nat) : xs128pOutput k = (xs128pAfter (k + 1)).s0 + (xs128pAfter (k + 1)).s1 := rfl

/-- The carry a step loses is that of the same sum. -/
theorem lostCarry_xs128pAfter (k : Nat) :
    (xs128pAfter k).lostCarry = carryOut (xs128pAfter (k + 1)).s0 (xs128pAfter (k + 1)).s1 := rfl

/-! The states of program P2 of 95_test_vectors, each from the one before it. -/

theorem xs128pAfter_one : xs128pAfter 1 = { s0 := 0x38465C8A03374952, s1 := 0x6F04AFA65B1D762B } := by
  decide

theorem xs128pAfter_two : xs128pAfter 2 = { s0 := 0x6F04AFA65B1D762B, s1 := 0x113B52A432397E45 } := by
  rw [xs128pAfter_succ, xs128pAfter_one]; decide

theorem xs128pAfter_three : xs128pAfter 3 = { s0 := 0x113B52A432397E45, s1 := 0xAD9B86261572903B } := by
  rw [xs128pAfter_succ, xs128pAfter_two]; decide

theorem xs128pAfter_four : xs128pAfter 4 = { s0 := 0xAD9B86261572903B, s1 := 0xEBD504C4A6E6BED1 } := by
  rw [xs128pAfter_succ, xs128pAfter_three]; decide

/-! ### `HOLD` on an engine whose run has begun -/

theorem exec_xs128pHold_started {s : State} {b : Xs128p} (h : s.xs128p = .started b) :
    exec .xs128pHold s = .next (s.setXs128p (.started b.hold)) :=
  State.onXs128p_started Xs128p.hold h

/-! ### The obligations -/

/-- Settles O35: the state map is linear, the output of two one-bit states is not, and the carries are those of the sums
of the first four states after the seed. -/
theorem xs128pStateMapIsLinear : Obligations.Xs128pStateMapIsLinear := by
  refine ⟨Xs128pRegs.advance_xorWith, ⟨_, _, Xs128pRegs.output_xorWith_ne⟩, ⟨?_, ?_, ?_, ?_⟩, xs128pAfter_four, ?_, ?_⟩
  · rw [lostCarry_xs128pAfter, xs128pAfter_one]; decide
  · rw [lostCarry_xs128pAfter, xs128pAfter_two]; decide
  · rw [lostCarry_xs128pAfter, xs128pAfter_three]; decide
  · rw [lostCarry_xs128pAfter, xs128pAfter_four]; decide
  · rw [xs128pAfter_four]; decide
  · rw [xs128pOutput_eq, xs128pAfter_four]; decide

/-- Settles O39, by induction on the number of `NEXT`s: an advance drops the older register and appends the next term of
the recurrence. -/
theorem xs128pOutputsObeyTheRecurrence : Obligations.Xs128pOutputsObeyTheRecurrence := by
  intro v h0 h1 hrec
  have hword (n : Nat) : xs128pWord (v n) (v (n + 1)) = v (n + 2) := by rw [hrec, xs128pWord_eq]
  have hstate (k : Nat) : xs128pAfter k = { s0 := v k, s1 := v (k + 1) } := by
    induction k with
    | zero => rw [xs128pAfter_zero, h0, h1]; rfl
    | succ k ih =>
      rw [xs128pAfter_succ, ih]
      exact Xs128pRegs.ext rfl (hword k)
  exact fun k => ⟨hstate k, by rw [xs128pOutput_eq, hstate]⟩

/-- Settles O12: a running engine's `NEXT` leaves the rest of the block, its new register is the formula of R76, and its
word is the sum of the registers after it. -/
theorem xs128pNextAdvances : Obligations.Xs128pNextAdvances := by
  refine ⟨decode_one .xs128p, fun s b h => ?_⟩
  rw [exec_xs128pNext_started h, Xs128p.next, Xs128pRegs.output_eq, Xs128pRegs.advance, xs128pWord_eq]
  rfl

/-- Settles O13: a running engine's `HOLD` leaves all but the `out` port. -/
theorem xs128pHoldKeepsEverything : Obligations.Xs128pHoldKeepsEverything :=
  ⟨decode_zero .xs128p, fun _ _ h => exec_xs128pHold_started h⟩

end Sys2Proof.Machine

/-! PROOFS, 45_sequence_laws: independence of the engines (R98), the one sequence (R91), transparency of `HOLD` (R97),
independence of the length (R96), and the zero state that no run reaches (R94).

Each law holds of both engines for one reason. It is proved once, of an `EngineView`, and `xs128View` and `xs128pView` are
the two engines. -/

namespace Sys2Proof.Machine

/-! ### One engine of the block -/

/-- What a step with the given wires makes of an engine's registers and of the words it has returned (R48). -/
def observedStep {σ ω : Type} (seed : σ) (advance : σ → σ) (word : σ → ω) (q : σ × List ω) (p : Pins) :
    σ × List ω :=
  if p.rst then (seed, q.2) else if p.next = 1#1 then (advance q.1, q.2 ++ [word q.1]) else q

/-- What the two engines have in common: `α` is the running engine, `σ` its registers, `ω` its output word. -/
structure EngineView (α σ ω : Type) where
  port    : Engine
  life    : State → Lifecycle α
  fresh   : α
  move    : α → Pins → α
  /-- the registers and the words returned -/
  observe : α → σ × List ω
  /-- the words returned in the engine's run: none if it has not begun -/
  words   : State → List ω
  advance : σ → σ
  word    : σ → ω
  /-- the registers after reset and `k` `NEXT`s -/
  nth     : Nat → σ
  words_of_started   : ∀ s e, life s = .started e → words s = (observe e).2
  words_of_unstarted : ∀ s, life s = .unstarted → words s = []
  step_of_hasRun : ∀ s, (life s).hasRun (s.fetchInputs.pins port).rst = true → step s = .next s.after
  life_after     : ∀ s, life s.after = (life s).after fresh move (s.fetchInputs.pins port)
  observe_fresh  : observe fresh = (nth 0, [])
  observe_move   : ∀ e p, observe (move e p) = observedStep (nth 0) advance word (observe e) p
  nth_succ       : ∀ k, nth (k + 1) = advance (nth k)

theorem Xs128.observe_after (e : Xs128) (p : Pins) :
    ((e.after p).regs, (e.after p).returned) =
      observedStep .seed Xs128Regs.advance Xs128Regs.output (e.regs, e.returned) p := by
  unfold Xs128.after observedStep
  split_ifs <;> rfl

theorem Xs128p.observe_after (e : Xs128p) (p : Pins) :
    ((e.after p).regs, (e.after p).returned) =
      observedStep .seed Xs128pRegs.advance Xs128pRegs.output (e.regs, e.returned) p := by
  unfold Xs128p.after observedStep
  split_ifs <;> rfl

/-- `XS128` in the block. -/
def xs128View : EngineView Xs128 Xs128Regs Word32 where
  port := .xs128
  life := State.xs128
  fresh := .fresh
  move := Xs128.after
  observe e := (e.regs, e.returned)
  words := State.words128
  words_of_started s e h := by simp [State.words128, h]
  words_of_unstarted s h := by simp [State.words128, h]
  advance := Xs128Regs.advance
  word := Xs128Regs.output
  nth := xs128After
  step_of_hasRun _ h := step_next_iff.2 ⟨.inl h, rfl⟩
  life_after _ := rfl
  observe_fresh := rfl
  observe_move := Xs128.observe_after
  nth_succ := xs128After_succ

/-- `XS128P` in the block. -/
def xs128pView : EngineView Xs128p Xs128pRegs Word64 where
  port := .xs128p
  life := State.xs128p
  fresh := .fresh
  move := Xs128p.after
  observe e := (e.regs, e.returned)
  words := State.words128p
  words_of_started s e h := by simp [State.words128p, h]
  words_of_unstarted s h := by simp [State.words128p, h]
  advance := Xs128pRegs.advance
  word := Xs128pRegs.output
  nth := xs128pAfter
  step_of_hasRun _ h := step_next_iff.2 ⟨.inr h, rfl⟩
  life_after _ := rfl
  observe_fresh := rfl
  observe_move := Xs128p.observe_after
  nth_succ := xs128pAfter_succ

/-! ### Columns -/

@[simp] theorem length_column (e : Engine) (cs : List CoreInputs) : (column e cs).length = cs.length :=
  List.length_map _

/-- What an engine's wires carry in the next step stands in its own column. -/
theorem fetchInputs_pins (s : State) (e : Engine) : s.fetchInputs.pins e = (column e s.pending).head?.getD .idle := by
  cases h : s.pending with
  | nil => rw [State.fetchInputs_nil h]; cases e <;> rfl
  | cons c cs => rw [State.fetchInputs_cons h]; rfl

/-- A step reads the first entry of a column and leaves the rest of it. -/
theorem column_step {e : Engine} {s : State} {p : Pins} {ps : List Pins} (h : column e s.pending = p :: ps) :
    s.fetchInputs.pins e = p ∧ column e s.after.pending = ps := by
  refine ⟨by rw [fetchInputs_pins, h]; rfl, ?_⟩
  rw [State.after, column, List.map_tail]
  exact congrArg List.tail h

theorem exists_column_split (e : Engine) {n : Nat} {s : State} (hn : n ≤ s.pending.length) :
    ∃ ps qs, column e s.pending = ps ++ qs ∧ ps.length = n :=
  ⟨_, _, (List.take_append_drop n _).symm, by simp [hn]⟩

theorem nextCount_append (ps qs : List Pins) : nextCount (ps ++ qs) = nextCount ps + nextCount qs :=
  List.countP_append

@[simp] theorem nextCount_replicate_next (k : Nat) : nextCount (List.replicate k { rst := false, next := 1#1 }) = k := by
  simp [nextCount, List.countP_replicate, Pins.isNext]

@[simp] theorem nextCount_replicate_hold (k : Nat) : nextCount (List.replicate k { rst := false, next := 0#1 }) = 0 := by
  simp [nextCount, List.countP_replicate, Pins.isNext]

/-- Calls and pauses reset nothing. -/
theorem forall_mem_replicate_not_rst (k : Nat) (c : Command) :
    ∀ p ∈ List.replicate k ({ rst := false, next := c } : Pins), p.rst = false :=
  List.forall_mem_replicate.2 (.inr rfl)

/-- The first `K` of `K + L` words, and the rest of them. -/
theorem map_range_append_drop {ω : Type} (f : Nat → ω) (K L : Nat) :
    (List.range K).map f ++ ((List.range (K + L)).map f).drop K = (List.range (K + L)).map f := by
  rw [List.range_add, List.map_append, List.drop_left' (by simp)]

/-- A running engine goes along a column by itself. -/
theorem Lifecycle.foldl_after_started {α : Type} (fresh e : α) (f : α → Pins → α) (ps : List Pins) :
    ps.foldl (Lifecycle.after fresh f) (.started e) = .started (ps.foldl f e) :=
  List.foldl_hom Lifecycle.started fun _ _ => rfl

/-! ### What a column makes of an engine's registers and words -/

section Observed

variable {σ ω : Type} {seed : σ} {advance : σ → σ} {word : σ → ω}

theorem observedStep_of_isHold {p : Pins} (h : p.isHold = true) (q : σ × List ω) :
    observedStep seed advance word q p = q := by
  obtain ⟨hrst, hnext⟩ : p.rst = false ∧ p.next = 0#1 := by simpa [Pins.isHold] using h
  simp [observedStep, hrst, hnext]

/-- R97: a `HOLD` changes neither the registers nor the words. -/
theorem foldl_observedStep_withoutHolds (ps : List Pins) (q : σ × List ω) :
    (withoutHolds ps).foldl (observedStep seed advance word) q = ps.foldl (observedStep seed advance word) q := by
  rw [withoutHolds, List.foldl_filter]
  congr 1
  funext q p
  cases h : p.isHold with
  | true => simp [observedStep_of_isHold h]
  | false => rfl

/-- What holds of the seed and of every advance holds of the registers along any column. -/
theorem foldl_observedStep_keeps {P : σ → Prop} (hseed : P seed) (hadvance : ∀ r, P r → P (advance r))
    {q : σ × List ω} (hq : P q.1) (ps : List Pins) : P (ps.foldl (observedStep seed advance word) q).1 := by
  induction ps generalizing q with
  | nil => exact hq
  | cons p ps ih =>
    refine ih ?_
    unfold observedStep
    split_ifs
    · exact hseed
    · exact hadvance _ hq
    · exact hq

/-- R91: from the seed on, a column without a reset goes along the one sequence, one place for each `NEXT`. -/
theorem foldl_observedStep_of_no_reset {nth : Nat → σ} (hnth : ∀ k, nth (k + 1) = advance (nth k)) {ps : List Pins}
    (hps : ∀ p ∈ ps, p.rst = false) (ws : List ω) :
    ps.foldl (observedStep seed advance word) (nth 0, ws) =
      (nth (nextCount ps), ws ++ (List.range (nextCount ps)).map fun k => word (nth k)) := by
  induction ps using List.reverseRecOn with
  | nil => simp [nextCount]
  | append_singleton ps p ih =>
    have hrst : p.rst = false := hps p (by simp)
    rw [List.foldl_append, ih fun q hq => hps q (by simp [hq]), nextCount_append]
    by_cases hnext : p.next = 1#1
    · have hcount : nextCount [p] = 1 := by simp [nextCount, Pins.isNext, hrst, hnext]
      simp [observedStep, hrst, hnext, hcount, hnth, List.range_succ]
    · have hcount : nextCount [p] = 0 := by simp [nextCount, Pins.isNext, hnext]
      simp [observedStep, hrst, hnext, hcount]

end Observed

/-! ### Runs of the block, seen at one engine -/

namespace EngineView

variable {α σ ω : Type} (V : EngineView α σ ω)

/-- `o(k + 1)` of the engine (R100). -/
def output (k : Nat) : ω := V.word (V.nth k)

/-- An engine that has a run in a step has one in every later step, so no step is refused. -/
theorem exists_runSteps (n : Nat) {s : State} (h : (V.life s).hasRun (s.fetchInputs.pins V.port).rst = true) :
    ∃ t, runSteps n s = .next t := by
  induction n generalizing s with
  | zero => exact ⟨s, rfl⟩
  | succ n ih =>
    rw [runSteps_succ (V.step_of_hasRun s h)]
    have hstarted : (V.life s.after).isStarted = true := by rw [V.life_after, Lifecycle.isStarted_after, h]
    obtain ⟨e, he⟩ := Lifecycle.isStarted_iff.1 hstarted
    exact ih (by rw [he, Lifecycle.hasRun_started])

/-- R98: where a run that completes leaves an engine depends on the engine's own column only. -/
theorem life_of_runSteps {ps qs : List Pins} {s t : State} (hcol : column V.port s.pending = ps ++ qs)
    (h : runSteps ps.length s = .next t) : V.life t = ps.foldl (Lifecycle.after V.fresh V.move) (V.life s) := by
  induction ps generalizing s with
  | nil => cases h; rfl
  | cons p ps ih =>
    obtain ⟨hp, hrest⟩ := column_step hcol
    cases hstep : step s with
    | next u =>
      obtain ⟨-, rfl⟩ := step_next_iff.1 hstep
      rw [List.length_cons, runSteps_succ hstep] at h
      rw [ih hrest h, V.life_after, hp, List.foldl_cons]
    | fault r => simp [runSteps, hstep] at h
    | refused r => simp [runSteps, hstep] at h

/-- A running engine completes its column, which makes of its registers and words what it would of a stand-alone
engine's. -/
theorem run_of_started {ps qs : List Pins} {s : State} {a : α} (ha : V.life s = .started a)
    (hcol : column V.port s.pending = ps ++ qs) :
    ∃ t e, runSteps ps.length s = .next t ∧ V.life t = .started e ∧
      V.observe e = ps.foldl (observedStep (V.nth 0) V.advance V.word) (V.observe a) := by
  obtain ⟨t, ht⟩ := V.exists_runSteps ps.length (s := s) (by rw [ha, Lifecycle.hasRun_started])
  refine ⟨t, ps.foldl V.move a, ht, ?_, ?_⟩
  · rw [V.life_of_runSteps hcol ht, ha, Lifecycle.foldl_after_started]
  · exact (List.foldl_hom V.observe fun e p => (V.observe_move e p).symm).symm

/-- A reset, first or further, of an engine whose run is not refused leaves the seed and the words it had (R126). -/
theorem life_after_reset {s : State} (hs : V.life s ≠ .refused) (hrst : (s.fetchInputs.pins V.port).rst = true) :
    ∃ e, V.life s.after = .started e ∧ V.observe e = (V.nth 0, V.words s) := by
  have hrun : (V.life s).hasRun (s.fetchInputs.pins V.port).rst = true := by rw [hrst, Lifecycle.hasRun_reset hs]
  rw [V.life_after]
  obtain ⟨hl, -, hafter⟩ | ⟨a, hl, hafter⟩ := Lifecycle.after_cases V.fresh V.move hrun
  · exact ⟨_, hafter, by rw [V.observe_fresh, V.words_of_unstarted s hl]⟩
  · exact ⟨_, hafter, by simp [V.observe_move, observedStep, hrst, V.words_of_started s a hl]⟩

/-- R91, for the part of a run up to any point of the column. -/
theorem run_of_reset {ps qs : List Pins} {p : Pins} {s : State} (hs : V.life s ≠ .refused)
    (hcol : column V.port s.pending = p :: (ps ++ qs)) (hrst : p.rst = true) (hps : ∀ p ∈ ps, p.rst = false) :
    ∃ t e, runSteps (1 + ps.length) s = .next t ∧ V.life t = .started e ∧
      V.observe e = (V.nth (nextCount ps), V.words s ++ (List.range (nextCount ps)).map V.output) := by
  obtain ⟨rfl, hrest⟩ := column_step hcol
  have hstep := V.step_of_hasRun s (by rw [hrst, Lifecycle.hasRun_reset hs])
  obtain ⟨a, ha, hseed⟩ := V.life_after_reset hs hrst
  obtain ⟨t, e, ht, he, hobs⟩ := V.run_of_started ha hrest
  refine ⟨t, e, ?_, he, ?_⟩
  · rw [Nat.add_comm, runSteps_succ hstep, ht]
  · rw [hobs, hseed, foldl_observedStep_of_no_reset V.nth_succ hps]; rfl

/-- The words after a reset and then calls and pauses: those of before, and one of the sequence for each call. -/
theorem words_of_reset {ps qs : List Pins} {p : Pins} {s : State} (hs : V.life s ≠ .refused)
    (hcol : column V.port s.pending = p :: (ps ++ qs)) (hrst : p.rst = true) (hps : ∀ p ∈ ps, p.rst = false) :
    ∃ t, runSteps (1 + ps.length) s = .next t ∧
      V.words t = V.words s ++ (List.range (nextCount ps)).map V.output := by
  obtain ⟨t, e, ht, he, hobs⟩ := V.run_of_reset hs hcol hrst hps
  exact ⟨t, ht, by rw [V.words_of_started t e he, hobs]⟩

/-! ### The laws, for either engine -/

/-- R98: both runs move the engine along the same column, and a run of the engine in the first step keeps every step from
being refused. -/
theorem depends_on_own_column (n : Nat) (s s' : State) (hn : n ≤ s.pending.length) (hlife : V.life s = V.life s')
    (hcol : column V.port s.pending = column V.port s'.pending) :
    (∀ t t', runSteps n s = .next t → runSteps n s' = .next t' → V.life t = V.life t') ∧
    ((V.life s).hasRun (s.fetchInputs.pins V.port).rst = true →
      ∃ t t', runSteps n s = .next t ∧ runSteps n s' = .next t' ∧ V.life t = V.life t') := by
  obtain ⟨ps, qs, hsplit, rfl⟩ := exists_column_split V.port hn
  have hagree : ∀ t t', runSteps ps.length s = .next t → runSteps ps.length s' = .next t' → V.life t = V.life t' := by
    intro t t' ht ht'
    rw [V.life_of_runSteps hsplit ht, V.life_of_runSteps (hcol ▸ hsplit) ht', hlife]
  refine ⟨hagree, fun hrun => ?_⟩
  obtain ⟨t, ht⟩ := V.exists_runSteps ps.length hrun
  rw [hlife, fetchInputs_pins, hcol, ← fetchInputs_pins] at hrun
  obtain ⟨t', ht'⟩ := V.exists_runSteps ps.length hrun
  exact ⟨t, t', ht, ht', hagree t t' ht ht'⟩

/-- R91, for the whole column. -/
theorem follows_the_one_sequence (s : State) (c : CoreInputs) (after : List CoreInputs) (hs : V.life s ≠ .refused)
    (hpending : s.pending = c :: after) (hrst : (c.pins V.port).rst = true)
    (hafter : ∀ p ∈ column V.port after, p.rst = false) :
    ∃ t e, runSteps s.pending.length s = .next t ∧ V.life t = .started e ∧
      (V.observe e).1 = V.nth (nextCount (column V.port after)) ∧
      (V.observe e).2 = V.words s ++ (List.range (nextCount (column V.port after))).map V.output := by
  have hcol : column V.port s.pending = c.pins V.port :: (column V.port after ++ []) := by
    rw [hpending, List.append_nil]; rfl
  obtain ⟨t, e, ht, he, hobs⟩ := V.run_of_reset hs hcol hrst hafter
  refine ⟨t, e, ?_, he, Prod.ext_iff.1 hobs⟩
  rw [← ht, hpending, length_column, List.length_cons, Nat.add_comm]

/-- R97: both columns come to the one without `HOLD`s. -/
theorem holds_transparent (s s' : State) (a a' : α) (ha : V.life s = .started a) (ha' : V.life s' = .started a')
    (hregs : (V.observe a).1 = (V.observe a').1) (hwords : (V.observe a).2 = (V.observe a').2)
    (hcol : withoutHolds (column V.port s.pending) = withoutHolds (column V.port s'.pending)) :
    ∃ t t' e e', runSteps s.pending.length s = .next t ∧ runSteps s'.pending.length s' = .next t' ∧
      V.life t = .started e ∧ V.life t' = .started e' ∧ (V.observe e).1 = (V.observe e').1 ∧
      (V.observe e).2 = (V.observe e').2 := by
  obtain ⟨t, e, ht, he, hobs⟩ := V.run_of_started ha (List.append_nil _).symm
  obtain ⟨t', e', ht', he', hobs'⟩ := V.run_of_started ha' (List.append_nil _).symm
  rw [length_column] at ht ht'
  have hsame : V.observe e = V.observe e' := by
    rw [hobs, hobs', ← foldl_observedStep_withoutHolds, hcol, foldl_observedStep_withoutHolds,
      Prod.ext_iff.2 ⟨hregs, hwords⟩]
  exact ⟨t, t', e, e', ht, ht', he, he', Prod.ext_iff.1 hsame⟩

/-- R96: after the pause the engine has returned `K` words since its reset, after `NEXT*L` it has `K + L`, and so has a
fresh one after `NEXT*(K + L)`. -/
theorem independent_of_length (s : State) (K L pause : Nat) (n : Command) (hs : V.life s ≠ .refused)
    (hcol : column V.port s.pending = { rst := true, next := n } :: (List.replicate K { rst := false, next := 1#1 } ++
      List.replicate pause { rst := false, next := 0#1 } ++ List.replicate L { rst := false, next := 1#1 })) :
    ∃ m t, runSteps (1 + K + pause) s = .next m ∧ runSteps L m = .next t ∧
      V.words t = V.words m ++ ((List.range (K + L)).map V.output).drop K ∧
      ∀ (u : State) (n' : Command), V.life u ≠ .refused →
        column V.port u.pending = { rst := true, next := n' } :: List.replicate (K + L) { rst := false, next := 1#1 } →
        ∃ v, runSteps (1 + K + L) u = .next v ∧
          (V.words v).drop ((V.words u).length + K) = (V.words t).drop (V.words m).length := by
  obtain ⟨m, hm, hmwords⟩ := V.words_of_reset hs hcol rfl
    (List.forall_mem_append.2 ⟨forall_mem_replicate_not_rst K _, forall_mem_replicate_not_rst pause _⟩)
  obtain ⟨t, ht, htwords⟩ := V.words_of_reset hs (hcol.trans (by rw [List.append_nil])) rfl
    (List.forall_mem_append.2 ⟨List.forall_mem_append.2
      ⟨forall_mem_replicate_not_rst K _, forall_mem_replicate_not_rst pause _⟩, forall_mem_replicate_not_rst L _⟩)
  simp only [List.length_append, List.length_replicate, nextCount_append, nextCount_replicate_next,
    nextCount_replicate_hold, Nat.add_zero, ← Nat.add_assoc] at hm hmwords ht htwords
  have hlast : V.words t = V.words m ++ ((List.range (K + L)).map V.output).drop K := by
    rw [hmwords, htwords, List.append_assoc, map_range_append_drop]
  refine ⟨m, t, hm, by rw [← runSteps_add hm, ht], hlast, fun u n' hu hcol' => ?_⟩
  obtain ⟨v, hv, hvwords⟩ := V.words_of_reset hu (hcol'.trans (by rw [List.append_nil])) rfl
    (forall_mem_replicate_not_rst (K + L) _)
  rw [List.length_replicate, ← Nat.add_assoc] at hv
  rw [nextCount_replicate_next] at hvwords
  exact ⟨v, hv, by rw [hvwords, hlast, List.drop_length_add_append, List.drop_left]⟩

/-- What holds of the seed and of every advance holds of the registers at every point of a run. -/
theorem run_keeps {P : σ → Prop} (hseed : P (V.nth 0)) (hadvance : ∀ r, P r → P (V.advance r)) {n : Nat} {s : State}
    {a : α} (hn : n ≤ s.pending.length) (ha : V.life s = .started a) (hP : P (V.observe a).1) :
    ∃ t e, runSteps n s = .next t ∧ V.life t = .started e ∧ P (V.observe e).1 := by
  obtain ⟨ps, qs, hsplit, rfl⟩ := exists_column_split V.port hn
  obtain ⟨t, e, ht, he, hobs⟩ := V.run_of_started ha hsplit
  exact ⟨t, e, ht, he, hobs ▸ foldl_observedStep_keeps hseed hadvance hP ps⟩

end EngineView

/-! ### The obligations -/

/-- Settles O41: where a run leaves an engine is a function of the engine's column and of where it stood in its life. -/
theorem enginesDoNotInterfere : Obligations.EnginesDoNotInterfere :=
  ⟨xs128View.depends_on_own_column, xs128pView.depends_on_own_column⟩

/-- Settles O43: the reset leaves the seed, and each `NEXT` after it goes one place along the sequence. -/
theorem runsFollowTheOneSequence : Obligations.RunsFollowTheOneSequence :=
  ⟨xs128View.follows_the_one_sequence, xs128pView.follows_the_one_sequence⟩

/-- Settles O42: a column makes the same of registers and words as the column without its `HOLD`s. -/
theorem holdsAreTransparent : Obligations.HoldsAreTransparent :=
  ⟨xs128View.holds_transparent, xs128pView.holds_transparent⟩

/-- Settles O44: by the law of the one sequence the words of a run depend on its number of calls only. -/
theorem sequenceLengthIndependence : Obligations.SequenceLengthIndependence :=
  ⟨xs128View.independent_of_length, xs128pView.independent_of_length⟩

/-- Settles O37: neither seed is all zero, and an advance leads to the all-zero registers from themselves alone. -/
theorem zeroStateIsNeverReached : Obligations.ZeroStateIsNeverReached := by
  intro cs n hn
  obtain ⟨t, a, ht, ha, hne⟩ := xs128View.run_keeps (P := (· ≠ .zero)) (s := { State.reset with pending := cs })
    (by decide) (fun r => mt (Xs128Regs.advance_eq_zero_iff r).1) hn rfl (by decide)
  obtain ⟨t', b, ht', hb, hne'⟩ := xs128pView.run_keeps (P := (· ≠ .zero)) (s := { State.reset with pending := cs })
    (by decide) (fun r => mt (Xs128pRegs.advance_eq_zero_iff r).1) hn rfl (by decide)
  obtain rfl : t = t' := by injection ht.symm.trans ht'
  exact ⟨t, a, b, ht, ha, hne, hb, hne'⟩

end Sys2Proof.Machine

/-! PROOFS, 60_exceptions: the set of exceptions is empty (R106). -/

namespace Sys2Proof.Machine

/-- There is no reason to fault, so nothing the machine answers is a fault (R106). -/
theorem outcome_ne_fault {σ ρ : Type} (o : Host.Outcome σ Fault ρ) (r : Fault) : o ≠ .fault r := nomatch r

/-- Settles O26: an operation completes on every state of its engine, and the set of exceptions is empty. -/
theorem noOperationRaisesAnything : Obligations.NoOperationRaisesAnything :=
  ⟨fun _ _ h => exec_completes h, fun i s => outcome_ne_fault (exec i s), fun s => outcome_ne_fault (step s)⟩

end Sys2Proof.Machine

/-! PROOFS, 70_reset_and_hazards: a reset step leaves the seed (R126) and spares the other engine (R127). -/

namespace Sys2Proof.Machine

/-! ### An engine at its seed -/

/-- `XS128` after a reset step, the words its run has returned being `ws` (R126). -/
def Xs128.seeded (ws : List Word32) : Xs128 := { regs := .seed, out := none, returned := ws }

/-- `XS128P` after a reset step, the words its run has returned being `ws` (R126). -/
def Xs128p.seeded (ws : List Word64) : Xs128p := { regs := .seed, out := none, returned := ws }

theorem Xs128.fresh_eq_seeded : Xs128.fresh = .seeded [] := rfl
theorem Xs128p.fresh_eq_seeded : Xs128p.fresh = .seeded [] := rfl

/-- Reset wins over the command bit (R109), and the registers are not read (R126). -/
theorem Xs128.after_of_rst (a : Xs128) {p : Pins} (h : p.rst = true) : a.after p = .seeded a.returned := if_pos h

/-- Reset wins over the command bit (R109), and the registers are not read (R126). -/
theorem Xs128p.after_of_rst (b : Xs128p) {p : Pins} (h : p.rst = true) : b.after p = .seeded b.returned := if_pos h

/-! ### One step, seen at one engine -/

theorem Lifecycle.hasRun_of_isStarted {α : Type} {l : Lifecycle α} (h : l.isStarted = true) (rst : Bool) :
    l.hasRun rst = true := by
  obtain ⟨e, rfl⟩ := isStarted_iff.1 h
  rfl

theorem runSteps_one (s : State) : runSteps 1 s = step s := by
  cases h : step s <;> simp [runSteps, h]

namespace EngineView

variable {α σ ω : Type} (V : EngineView α σ ω)

/-- R126, where `seeded ws` is the engine a reset leaves when it has returned the words `ws`: a first reset leaves the
fresh engine, a further one keeps the words of the run. -/
theorem step_of_reset {seeded : List ω → α} (hfresh : V.fresh = seeded [])
    (hmove : ∀ (e : α) (p : Pins), p.rst = true → V.move e p = seeded (V.observe e).2)
    (s : State) (c : CoreInputs) (rest : List CoreInputs) (hs : V.life s ≠ .refused) (hpending : s.pending = c :: rest)
    (hrst : (c.pins V.port).rst = true) :
    ∃ t, step s = .next t ∧ t.pending = rest ∧ V.life t = .started (seeded (V.words s)) := by
  obtain rfl := State.fetchInputs_cons hpending
  have hrun : (V.life s).hasRun (s.fetchInputs.pins V.port).rst = true := by rw [hrst, Lifecycle.hasRun_reset hs]
  refine ⟨s.after, V.step_of_hasRun s hrun, congrArg List.tail hpending, ?_⟩
  rw [V.life_after]
  obtain ⟨hl, -, hafter⟩ | ⟨e, hl, hafter⟩ := Lifecycle.after_cases V.fresh V.move hrun
  · rw [hafter, hfresh, V.words_of_unstarted s hl]
  · rw [hafter, hmove e _ hrst, V.words_of_started s e hl]

/-- R127 is R98 for one step: a running engine ends it where its own column leads, whatever the other one's wires
carry. -/
theorem step_depends_on_own_column {s s' : State} (hpending : 0 < s.pending.length) (hlife : V.life s = V.life s')
    (hcol : column V.port s.pending = column V.port s'.pending) (hstarted : (V.life s).isStarted = true) :
    ∃ t t', step s = .next t ∧ step s' = .next t' ∧ V.life t = V.life t' := by
  simpa only [runSteps_one] using
    (V.depends_on_own_column 1 s s' hpending hlife hcol).2 (Lifecycle.hasRun_of_isStarted hstarted _)

end EngineView

/-! ### The obligations -/

/-- Settles O23: a reset writes its own engine's stage alone, and two steps that differ in one engine's wires have the
same column for the other engine. -/
theorem resetSparesTheOtherEngine : Obligations.ResetSparesTheOtherEngine :=
  ⟨fun _ => ⟨rfl, rfl⟩,
    fun _ _ _ _ _ hstarted => xs128pView.step_depends_on_own_column (Nat.succ_pos _) rfl rfl hstarted,
    fun _ _ _ _ _ hstarted => xs128View.step_depends_on_own_column (Nat.succ_pos _) rfl rfl hstarted⟩

/-- Settles O22: without the reset wire the wires select an operation, and with it the step leaves the seed. -/
theorem resetStepConstructs : Obligations.ResetStepConstructs := by
  refine ⟨fun e c => ?_, ?_, ?_⟩
  · rw [decodePins_of_not_rst e rfl]
    exact nofun
  · exact xs128View.step_of_reset Xs128.fresh_eq_seeded fun a _ => a.after_of_rst
  · exact xs128pView.step_of_reset Xs128p.fresh_eq_seeded fun b _ => b.after_of_rst

end Sys2Proof.Machine

/-! PROOFS, other: programs on the wires (R55), what an operation and a step can do (R17, R129), the inverses of the two
state maps (R64, R79), the invariant, and an engine of the block as a stand-alone one (R98). -/

namespace Sys2Proof

/-! ### Programs on the wires -/

theorem decode_encode (i : Instr) : decode i.engine (encode i) = i := by
  cases i with
  | xs128Next => exact Laws.RoundTrip.xs128Next
  | xs128Hold => exact Laws.RoundTrip.xs128Hold
  | xs128pNext => exact Laws.RoundTrip.xs128pNext
  | xs128pHold => exact Laws.RoundTrip.xs128pHold

theorem encode_decode (e : Engine) (c : Command) : encode (decode e c) = c := by
  obtain rfl | rfl := command_eq_zero_or_one c
  · rw [decode_zero, encode_holdInstr]
  · rw [decode_one, encode_nextInstr]

theorem decodePins_encodeItem {e : Engine} {x : ColumnItem} (h : x.wfOn e = true) :
    decodePins e (encodeItem x) = x := by
  cases x with
  | reset => rfl
  | op i =>
    obtain rfl : i.engine = e := of_decide_eq_true h
    rw [encodeItem_op, decodePins_of_not_rst _ rfl, decode_encode]

theorem wfOn_decodePins (e : Engine) (p : Pins) : (decodePins e p).wfOn e = true := by
  cases h : p.rst with
  | true => rw [decodePins_of_rst e h]; rfl
  | false =>
    rw [decodePins_of_not_rst e h]
    exact decide_eq_true (engine_decode e p.next)

theorem CoreRow.wf_iff (r : CoreRow) : r.wf = true ↔ r.xs128.wfOn .xs128 = true ∧ r.xs128p.wfOn .xs128p = true :=
  Bool.and_eq_true_iff

theorem decodeRow_encodeRow {r : CoreRow} (h : r.wf = true) : decodeRow (encodeRow r) = r := by
  obtain ⟨hxs128, hxs128p⟩ := r.wf_iff.1 h
  rw [encodeRow, decodeRow, decodePins_encodeItem hxs128, decodePins_encodeItem hxs128p]

theorem wf_decodeRow (c : CoreInputs) : (decodeRow c).wf = true :=
  (CoreRow.wf_iff _).2 ⟨wfOn_decodePins .xs128 c.xs128, wfOn_decodePins .xs128p c.xs128p⟩

/-- Decoding undoes encoding along a list if it does so for each of its entries. -/
theorem map_map_eq_self {α β : Type} {wf : α → Bool} {enc : α → β} {dec : β → α}
    (hinv : ∀ {x}, wf x = true → dec (enc x) = x) {xs : List α} (h : xs.all wf = true) : (xs.map enc).map dec = xs := by
  rw [List.map_map]
  exact (List.map_congr_left fun x hx => hinv (List.all_eq_true.1 h x hx)).trans (List.map_id xs)

/-- A number of at least one bit is a word of the port exactly if it is less than 2. -/
theorem decodeBits_of_pos {nbits : Nat} (e : Engine) (w : Nat) (h : 0 < nbits) :
    decodeBits e nbits w = if w < 2 then .ok (decode e (BitVec.ofNat 1 w)) else .error .widerThanPort :=
  if_neg (Nat.not_lt.2 h)

/-- What is read from a bare word is what its lowest bit selects on the port of bare words. -/
theorem eq_decode_of_decodeTableWord {nbits w : Nat} {i : Instr} (h : decodeTableWord nbits w = some i) :
    i = decode tablePort (BitVec.ofNat 1 w) := by
  unfold decodeTableWord decodeBits at h
  split_ifs at h
  exact (Option.some.inj h).symm

end Sys2Proof

namespace Sys2Proof.Machine

/-! ### What an operation can do -/

/-- An operation of `XS128` is a function of the running engine (R52). -/
theorem exec_of_engine_xs128 {i : Instr} (h : i.engine = .xs128) :
    ∃ f : Xs128 → Xs128, (∀ s, exec i s = s.onXs128 f) ∧ (i = .xs128Hold → f = Xs128.hold) := by
  cases i with
  | xs128Next => exact ⟨Xs128.next, fun _ => rfl, nofun⟩
  | xs128Hold => exact ⟨Xs128.hold, fun _ => rfl, fun _ => rfl⟩
  | xs128pNext | xs128pHold => cases h

/-- An operation of `XS128P` is a function of the running engine (R52). -/
theorem exec_of_engine_xs128p {i : Instr} (h : i.engine = .xs128p) :
    ∃ f : Xs128p → Xs128p, (∀ s, exec i s = s.onXs128p f) ∧ (i = .xs128pHold → f = Xs128p.hold) := by
  cases i with
  | xs128Next | xs128Hold => cases h
  | xs128pNext => exact ⟨Xs128p.next, fun _ => rfl, nofun⟩
  | xs128pHold => exact ⟨Xs128p.hold, fun _ => rfl, fun _ => rfl⟩

theorem State.onXs128_of_not_started {s : State} (f : Xs128 → Xs128) (h : s.xs128.isStarted = false) :
    s.onXs128 f = .refused (.beforeFirstReset .xs128) := by
  cases hl : s.xs128 with
  | started a => rw [hl] at h; cases h
  | unstarted | refused => simp [State.onXs128, hl]

theorem State.onXs128p_of_not_started {s : State} (f : Xs128p → Xs128p) (h : s.xs128p.isStarted = false) :
    s.onXs128p f = .refused (.beforeFirstReset .xs128p) := by
  cases hl : s.xs128p with
  | started b => rw [hl] at h; cases h
  | unstarted | refused => simp [State.onXs128p, hl]

theorem State.onXs128_eq_next {s t : State} {f : Xs128 → Xs128} (h : s.onXs128 f = .next t) :
    ∃ a, s.xs128 = .started a ∧ t = s.setXs128 (.started (f a)) := by
  cases hs : s.xs128.isStarted with
  | false => rw [State.onXs128_of_not_started f hs] at h; cases h
  | true =>
    obtain ⟨a, ha⟩ := Lifecycle.isStarted_iff.1 hs
    rw [State.onXs128_started f ha] at h
    cases h
    exact ⟨a, ha, rfl⟩

theorem State.onXs128p_eq_next {s t : State} {f : Xs128p → Xs128p} (h : s.onXs128p f = .next t) :
    ∃ b, s.xs128p = .started b ∧ t = s.setXs128p (.started (f b)) := by
  cases hs : s.xs128p.isStarted with
  | false => rw [State.onXs128p_of_not_started f hs] at h; cases h
  | true =>
    obtain ⟨b, hb⟩ := Lifecycle.isStarted_iff.1 hs
    rw [State.onXs128p_started f hb] at h
    cases h
    exact ⟨b, hb, rfl⟩

/-- An operation is refused by its engine's name before the engine's first reset (R129). -/
theorem exec_of_not_started {i : Instr} {s : State} (h : s.isStarted i.engine = false) :
    exec i s = .refused (.beforeFirstReset i.engine) := by
  cases he : i.engine with
  | xs128 =>
    obtain ⟨f, hexec, -⟩ := exec_of_engine_xs128 he
    rw [hexec, State.onXs128_of_not_started f (by rwa [he] at h)]
  | xs128p =>
    obtain ⟨f, hexec, -⟩ := exec_of_engine_xs128p he
    rw [hexec, State.onXs128p_of_not_started f (by rwa [he] at h)]

/-- Operations of the two engines write apart, so they commute where both engines run. -/
theorem exec_comm {i j : Instr} {s : State} (hi : i.engine = .xs128) (hj : j.engine = .xs128p) (hs : s.Running) :
    ∃ a b t, exec i s = .next a ∧ exec j a = .next t ∧ exec j s = .next b ∧ exec i b = .next t := by
  obtain ⟨f, hf, -⟩ := exec_of_engine_xs128 hi
  obtain ⟨g, hg, -⟩ := exec_of_engine_xs128p hj
  obtain ⟨a, ha⟩ := Lifecycle.isStarted_iff.1 hs.1
  obtain ⟨b, hb⟩ := Lifecycle.isStarted_iff.1 hs.2
  exact ⟨_, _, _, (hf s).trans (State.onXs128_started f ha), (hg _).trans (State.onXs128p_started g hb),
    (hg s).trans (State.onXs128p_started g hb), (hf _).trans (State.onXs128_started f ha)⟩

/-- The sum of the words is the exact sum less its carry (R136). -/
theorem toNat_add_carryOut (a b : Word64) :
    (a + b).toNat + (if carryOut a b then 2 ^ 64 else 0) = a.toNat + b.toNat := by
  rw [BitVec.toNat_add, carryOut]
  have ha := a.isLt
  have hb := b.isLt
  by_cases h : 2 ^ 64 ≤ a.toNat + b.toNat
  · rw [if_pos (decide_eq_true h)]
    omega
  · rw [if_neg (by simpa using h)]
    omega

/-! ### The words of `NEXT`, run backwards -/

/-- `v xor (v << k)`, of which `x1` of R76 and `t` of R61 are made. -/
def xorShl {n : Nat} (k : Nat) (v : BitVec n) : BitVec n := xorW v (shlW v k)

/-- `v xor (v >> k)`. -/
def xorLshr {n : Nat} (k : Nat) (v : BitVec n) : BitVec n := xorW v (lshrW v k)

/-- The inverse of `xorShl k` on words of at most `3 * k` bits. -/
def unXorShl {n : Nat} (k : Nat) (v : BitVec n) : BitVec n := xorW (xorW v (shlW v k)) (shlW v (2 * k))

/-- The inverse of `xorLshr k` on words of at most `4 * k` bits. -/
def unXorLshr {n : Nat} (k : Nat) (v : BitVec n) : BitVec n :=
  xorW (xorW (xorW v (lshrW v k)) (lshrW v (2 * k))) (lshrW v (3 * k))

theorem xs128Word_eq_xorShl (x w : Word32) : xs128Word x w = xorW (xorLshr 19 w) (xorLshr 8 (xorShl 11 x)) := rfl

theorem xs128pWord_eq_xorShl (s0 s1 : Word64) :
    xs128pWord s0 s1 = xorW (xorW (xorW (xorShl 23 s0) s1) (lshrW (xorShl 23 s0) 18)) (lshrW s1 5) := rfl

theorem Xs128Regs.retreat_eq (r : Xs128Regs) :
    r.retreat = { x := unXorShl 11 (unXorLshr 8 (xorW (xorW r.w r.z) (lshrW r.z 19))), y := r.x, z := r.y, w := r.z } :=
  rfl

theorem Xs128pRegs.retreat_eq (r : Xs128pRegs) :
    r.retreat = { s0 := unXorShl 23 (unXorLshr 18 (xorW (xorW r.s1 r.s0) (lshrW r.s0 5))), s1 := r.s0 } :=
  rfl

theorem shlW_shlW {n : Nat} (v : BitVec n) (j k : Nat) : shlW (shlW v j) k = shlW v (j + k) :=
  (BitVec.shiftLeft_add v j k).symm

theorem lshrW_lshrW {n : Nat} (v : BitVec n) (j k : Nat) : lshrW (lshrW v j) k = lshrW v (j + k) :=
  (BitVec.shiftRight_add v j k).symm

theorem shlW_eq_zero {n k : Nat} (v : BitVec n) (h : n ≤ k) : shlW v k = 0#n :=
  BitVec.shiftLeft_eq_zero h

theorem lshrW_eq_zero {n k : Nat} (v : BitVec n) (h : n ≤ k) : lshrW v k = 0#n :=
  BitVec.ushiftRight_eq_zero h

theorem xorW_self {n : Nat} (a : BitVec n) : xorW a a = 0#n := BitVec.xor_self

theorem xorW_assoc {n : Nat} (a b c : BitVec n) : xorW (xorW a b) c = xorW a (xorW b c) := BitVec.xor_assoc a b c

theorem xorW_comm {n : Nat} (a b : BitVec n) : xorW a b = xorW b a := BitVec.xor_comm a b

theorem xorW_xorW_cancel {n : Nat} (a b : BitVec n) : xorW (xorW a b) b = a := by
  rw [xorW_assoc, xorW_self, xorW_zero]

theorem xorW_right_comm {n : Nat} (a b c : BitVec n) : xorW (xorW a b) c = xorW (xorW a c) b := by
  rw [xorW_assoc, xorW_comm b, ← xorW_assoc]

theorem xorW_eq_iff {n : Nat} {a b c : BitVec n} : xorW a b = c ↔ a = xorW c b :=
  ⟨fun h => by rw [← h, xorW_xorW_cancel], fun h => by rw [h, xorW_xorW_cancel]⟩

/-- Two `xor`s that share a word come to the `xor` of the ends. -/
theorem xorW_telescope {n : Nat} (a b c : BitVec n) : xorW (xorW a b) (xorW b c) = xorW a c := by
  rw [← xorW_assoc, xorW_xorW_cancel]

/-- What each shift of the word leaves over, the next one cancels, and the last shift is all zeros. -/
theorem unXorShl_xorShl {n k : Nat} (h : n ≤ 3 * k) (v : BitVec n) : unXorShl k (xorShl k v) = v := by
  have hlast : shlW v (k + 2 * k) = 0#n := shlW_eq_zero v (by omega)
  rw [unXorShl, xorShl, shlW_xorW, shlW_xorW, shlW_shlW, shlW_shlW, hlast, ← Nat.two_mul, xorW_telescope,
    xorW_telescope, xorW_zero]

theorem xorShl_unXorShl {n k : Nat} (h : n ≤ 3 * k) (v : BitVec n) : xorShl k (unXorShl k v) = v := by
  have hlast : shlW v (2 * k + k) = 0#n := shlW_eq_zero v (by omega)
  rw [xorShl, unXorShl, shlW_xorW, shlW_xorW, shlW_shlW, shlW_shlW, hlast, ← Nat.two_mul, xorW_zero, xorW_assoc v,
    xorW_xorW_cancel]

theorem unXorLshr_xorLshr {n k : Nat} (h : n ≤ 4 * k) (v : BitVec n) : unXorLshr k (xorLshr k v) = v := by
  have hlast : lshrW v (k + 3 * k) = 0#n := lshrW_eq_zero v (by omega)
  have hthree : k + 2 * k = 3 * k := by omega
  rw [unXorLshr, xorLshr, lshrW_xorW, lshrW_xorW, lshrW_xorW, lshrW_lshrW, lshrW_lshrW, lshrW_lshrW, hlast, hthree,
    ← Nat.two_mul, xorW_telescope, xorW_telescope, xorW_telescope, xorW_zero]

theorem xorLshr_unXorLshr {n k : Nat} (h : n ≤ 4 * k) (v : BitVec n) : xorLshr k (unXorLshr k v) = v := by
  have hlast : lshrW v (3 * k + k) = 0#n := lshrW_eq_zero v (by omega)
  have hthree : 2 * k + k = 3 * k := by omega
  rw [xorLshr, unXorLshr, lshrW_xorW, lshrW_xorW, lshrW_xorW, lshrW_lshrW, lshrW_lshrW, lshrW_lshrW, hlast, hthree,
    ← Nat.two_mul, xorW_zero, xorW_assoc v, xorW_assoc v, xorW_xorW_cancel]

theorem xorShl_eq_iff {n k : Nat} (h : n ≤ 3 * k) {u v : BitVec n} : xorShl k v = u ↔ v = unXorShl k u :=
  ⟨fun e => by rw [← e, unXorShl_xorShl h], fun e => by rw [e, xorShl_unXorShl h]⟩

theorem xorLshr_eq_iff {n k : Nat} (h : n ≤ 4 * k) {u v : BitVec n} : xorLshr k v = u ↔ v = unXorLshr k u :=
  ⟨fun e => by rw [← e, unXorLshr_xorLshr h], fun e => by rw [e, xorLshr_unXorLshr h]⟩

/-! ### The state maps and their inverses -/

/-- Taking `w` and its shift off the word leaves what `NEXT` made of `x` (R64). -/
theorem xs128Word_eq_iff {x w v : Word32} :
    xs128Word x w = v ↔ x = unXorShl 11 (unXorLshr 8 (xorW (xorW v w) (lshrW w 19))) := by
  rw [xs128Word_eq_xorShl, xorW_comm, xorW_eq_iff, xorLshr_eq_iff (by decide), xorShl_eq_iff (by decide), xorLshr,
    ← xorW_assoc]

/-- Taking `s1` and its shift off the word leaves what `NEXT` made of `s0` (R79). -/
theorem xs128pWord_eq_iff {s0 s1 v : Word64} :
    xs128pWord s0 s1 = v ↔ s0 = unXorShl 23 (unXorLshr 18 (xorW (xorW v s1) (lshrW s1 5))) := by
  rw [xs128pWord_eq_xorShl, xorW_right_comm (xorShl 23 s0), ← xorLshr, xorW_eq_iff, xorW_eq_iff, xorW_right_comm v,
    xorLshr_eq_iff (by decide), xorShl_eq_iff (by decide)]

theorem Xs128Regs.advance_eq_iff (r q : Xs128Regs) : r.advance = q ↔ r = q.retreat := by
  rw [Xs128Regs.ext_iff, Xs128Regs.ext_iff, advance_x, advance_y, advance_z, advance_w, xs128Word_eq_iff, retreat_eq]
  constructor
  · rintro ⟨hy, hz, hw, hx⟩
    exact ⟨hw ▸ hx, hy, hz, hw⟩
  · rintro ⟨hx, hy, hz, hw⟩
    exact ⟨hy, hz, hw, hw ▸ hx⟩

theorem Xs128pRegs.advance_eq_iff (r q : Xs128pRegs) : r.advance = q ↔ r = q.retreat := by
  rw [Xs128pRegs.ext_iff, Xs128pRegs.ext_iff, advance_s0, advance_s1, xs128pWord_eq_iff, retreat_eq]
  constructor
  · rintro ⟨hs1, hs0⟩
    exact ⟨hs1 ▸ hs0, hs1⟩
  · rintro ⟨hs0, hs1⟩
    exact ⟨hs1, hs1 ▸ hs0⟩

theorem Xs128Regs.retreat_advance (r : Xs128Regs) : r.advance.retreat = r := ((advance_eq_iff r _).1 rfl).symm
theorem Xs128Regs.advance_retreat (r : Xs128Regs) : r.retreat.advance = r := (advance_eq_iff _ r).2 rfl
theorem Xs128pRegs.retreat_advance (r : Xs128pRegs) : r.advance.retreat = r := ((advance_eq_iff r _).1 rfl).symm
theorem Xs128pRegs.advance_retreat (r : Xs128pRegs) : r.retreat.advance = r := (advance_eq_iff _ r).2 rfl

/-! ### A step and the engines' runs -/

theorem Lifecycle.hasRun_eq_false_iff {α : Type} {l : Lifecycle α} {rst : Bool} :
    l.hasRun rst = false ↔ l.isStarted = false ∧ (l = .unstarted → rst = false) := by
  cases l <;> simp

/-- A run begins with the engine's reset alone (R129). -/
theorem Lifecycle.rst_of_run_begins {α : Type} {l : Lifecycle α} {rst : Bool} (h : l.isStarted = false)
    (hrun : l.hasRun rst = true) : rst = true := by
  cases l with
  | unstarted => exact hrun
  | started a => cases h
  | refused => cases hrun

/-- Where a running engine after a step comes from: its first reset, or the running engine before. -/
theorem Lifecycle.after_eq_started {α : Type} {l : Lifecycle α} {p : Pins} {fresh e : α} {f : α → Pins → α}
    (h : l.after fresh f p = .started e) :
    (l = .unstarted ∧ p.rst = true ∧ e = fresh) ∨ (∃ a, l = .started a ∧ e = f a p) := by
  have hrun : l.hasRun p.rst = true := by rw [← isStarted_after fresh f, h, isStarted_started]
  obtain ⟨hl, hrst, hafter⟩ | ⟨a, hl, hafter⟩ := after_cases fresh f hrun
  · exact .inl ⟨hl, hrst, Lifecycle.started.inj (h.symm.trans hafter)⟩
  · exact .inr ⟨a, hl, Lifecycle.started.inj (h.symm.trans hafter)⟩

theorem Lifecycle.after_unstarted_of_call {α : Type} (fresh : α) (f : α → Pins → α) {p : Pins} (hrst : p.rst = false)
    (hnext : p.next = 1#1) : (Lifecycle.unstarted).after fresh f p = .refused := by
  simp [Lifecycle.after, hrst, hnext]

theorem Lifecycle.after_unstarted_of_wait {α : Type} (fresh : α) (f : α → Pins → α) {p : Pins} (hrst : p.rst = false)
    (hnext : p.next = 0#1) : (Lifecycle.unstarted).after fresh f p = .unstarted := by
  simp [Lifecycle.after, hrst, hnext]

theorem step_refused_iff {s : State} {r : Refusal} :
    step s = .refused r ↔ r = .noRunBegun ∧ s.xs128.hasRun s.fetchInputs.xs128.rst = false ∧
      s.xs128p.hasRun s.fetchInputs.xs128p.rst = false := by
  rw [step_eq, ← Bool.or_eq_false_iff]
  cases s.xs128.hasRun s.fetchInputs.xs128.rst || s.xs128p.hasRun s.fetchInputs.xs128p.rst with
  | true => simp
  | false => simp [eq_comm]

theorem step_of_isStarted {s : State} {e : Engine} (h : s.isStarted e = true) :
    step s = .next s.after ∧ s.after.isStarted e = true := by
  cases e with
  | xs128 =>
    obtain ⟨a, ha⟩ := Lifecycle.isStarted_iff.1 h
    obtain ⟨hstep, hafter⟩ := step_of_xs128 ha
    exact ⟨hstep, Lifecycle.isStarted_iff.2 ⟨_, hafter⟩⟩
  | xs128p =>
    obtain ⟨b, hb⟩ := Lifecycle.isStarted_iff.1 h
    obtain ⟨hstep, hafter⟩ := step_of_xs128p hb
    exact ⟨hstep, Lifecycle.isStarted_iff.2 ⟨_, hafter⟩⟩

theorem Xs128.after_idle (a : Xs128) : a.after .idle = a.hold := rfl
theorem Xs128p.after_idle (b : Xs128p) : b.after .idle = b.hold := rfl

theorem hasRun_of_running {s : State} (h : s.Running) (c : CoreInputs) :
    s.xs128.hasRun c.xs128.rst = true ∧ s.xs128p.hasRun c.xs128p.rst = true :=
  ⟨Lifecycle.hasRun_of_isStarted h.1 _, Lifecycle.hasRun_of_isStarted h.2 _⟩

theorem State.after_pending (s : State) : s.after.pending = s.pending.tail := rfl

theorem running_after {s : State} (h : s.Ready) : s.after.Running :=
  ⟨(Lifecycle.isStarted_after ..).trans h.1, (Lifecycle.isStarted_after ..).trans h.2⟩

/-! ### The invariant -/

theorem Xs128.inv_of_no_word {a : Xs128} (hne : a.regs ≠ .zero) (hout : a.out = none) : a.Inv :=
  ⟨hne, by simp [hout], by simp [hout]⟩

theorem Xs128p.inv_of_no_word {b : Xs128p} (hne : b.regs ≠ .zero) (hout : b.out = none) : b.Inv :=
  ⟨hne, by simp [hout], by simp [hout]⟩

theorem Xs128Regs.seed_ne_zero : Xs128Regs.seed ≠ .zero := by decide
theorem Xs128pRegs.seed_ne_zero : Xs128pRegs.seed ≠ .zero := by decide

theorem Xs128.fresh_inv : Xs128.fresh.Inv := inv_of_no_word Xs128Regs.seed_ne_zero rfl
theorem Xs128p.fresh_inv : Xs128p.fresh.Inv := inv_of_no_word Xs128pRegs.seed_ne_zero rfl

theorem Xs128.next_inv {a : Xs128} (h : a.regs ≠ .zero) : a.next.Inv where
  nonzero := mt (Xs128Regs.advance_eq_zero_iff _).1 h
  out_last v hv := by rw [next_returned, List.getLast?_concat, ← hv, next_out]
  out_w v hv := Option.some.inj hv

theorem Xs128p.next_inv {b : Xs128p} (h : b.regs ≠ .zero) : b.next.Inv where
  nonzero := mt (Xs128pRegs.advance_eq_zero_iff _).1 h
  out_last v hv := by rw [next_returned, List.getLast?_concat, ← hv, next_out]
  out_sum v hv := Option.some.inj hv

theorem Xs128.after_inv {a : Xs128} (h : a.Inv) (p : Pins) : (a.after p).Inv := by
  unfold Xs128.after
  split_ifs
  · exact inv_of_no_word Xs128Regs.seed_ne_zero rfl
  · exact next_inv h.nonzero
  · exact inv_of_no_word h.nonzero rfl

theorem Xs128p.after_inv {b : Xs128p} (h : b.Inv) (p : Pins) : (b.after p).Inv := by
  unfold Xs128p.after
  split_ifs
  · exact inv_of_no_word Xs128pRegs.seed_ne_zero rfl
  · exact next_inv h.nonzero
  · exact inv_of_no_word h.nonzero rfl

/-- What holds of the fresh engine and is kept by a running one holds of the engine after every step. -/
theorem Lifecycle.after_keeps {α : Type} {P : α → Prop} {fresh : α} {f : α → Pins → α} {l : Lifecycle α} {p : Pins}
    (hfresh : P fresh) (hmove : ∀ {a}, P a → ∀ p, P (f a p)) (h : ∀ a, l = .started a → P a) (e : α)
    (he : l.after fresh f p = .started e) : P e := by
  obtain ⟨-, -, rfl⟩ | ⟨a, hl, rfl⟩ := after_eq_started he
  · exact hfresh
  · exact hmove (h a hl) p

/-! ### A step and a run, seen at one engine -/

theorem observedStep_writes {σ ω : Type} {seed : σ} {advance : σ → σ} {word : σ → ω} {q : σ × List ω} {p : Pins}
    (h : (observedStep seed advance word q p).1 ≠ q.1) : p.rst = true ∨ p.next = 1#1 := by
  unfold observedStep at h
  split_ifs at h with hrst hnext
  · exact .inl hrst
  · exact .inr hnext
  · exact absurd rfl h

/-- Wires that carry neither a reset nor a call change nothing. -/
theorem observedStep_idle {σ ω : Type} {seed : σ} {advance : σ → σ} {word : σ → ω} (q : σ × List ω) :
    observedStep seed advance word q .idle = q := observedStep_of_isHold rfl q

/-- A function with the two equations of a stand-alone engine's column computes what the column makes of the engine's
registers and words, the words in front of those it had. -/
theorem foldl_observedStep_eq_column {σ ω : Type} {seed : σ} {advance : σ → σ} {word : σ → ω}
    {col : List Pins → σ → σ × List ω} (hnil : ∀ r, col [] r = (r, []))
    (hcons : ∀ p ps r, col (p :: ps) r = if p.rst then col ps seed
      else if p.next = 1#1 then ((col ps (advance r)).1, word r :: (col ps (advance r)).2) else col ps r)
    (ps : List Pins) (r : σ) (ws : List ω) :
    ps.foldl (observedStep seed advance word) (r, ws) = ((col ps r).1, ws ++ (col ps r).2) := by
  induction ps generalizing r ws with
  | nil => simp [hnil]
  | cons p ps ih =>
    rw [List.foldl_cons, hcons, observedStep]
    split_ifs
    · exact ih seed ws
    · rw [ih]
      simp
    · exact ih r ws

theorem foldl_observedStep_eq_xs128Column (ps : List Pins) (r : Xs128Regs) (ws : List Word32) :
    ps.foldl (observedStep .seed Xs128Regs.advance Xs128Regs.output) (r, ws) =
      ((xs128Column ps r).1, ws ++ (xs128Column ps r).2) :=
  foldl_observedStep_eq_column (fun _ => rfl) (fun _ _ _ => rfl) ps r ws

theorem foldl_observedStep_eq_xs128pColumn (ps : List Pins) (r : Xs128pRegs) (ws : List Word64) :
    ps.foldl (observedStep .seed Xs128pRegs.advance Xs128pRegs.output) (r, ws) =
      ((xs128pColumn ps r).1, ws ++ (xs128pColumn ps r).2) :=
  foldl_observedStep_eq_column (fun _ => rfl) (fun _ _ _ => rfl) ps r ws

namespace EngineView

variable {α σ ω : Type} (V : EngineView α σ ω)

/-- A running engine goes on for any number of steps, along its column as far as that goes and then holding. -/
theorem run_of_started_take (n : Nat) {s : State} {a : α} (ha : V.life s = .started a) :
    ∃ t e, runSteps n s = .next t ∧ V.life t = .started e ∧
      V.observe e = (column V.port (s.pending.take n)).foldl (observedStep (V.nth 0) V.advance V.word) (V.observe a) := by
  induction n generalizing s a with
  | zero => exact ⟨s, a, rfl, ha, rfl⟩
  | succ n ih =>
    have hafter : V.life s.after = .started (V.move a (s.fetchInputs.pins V.port)) := by rw [V.life_after, ha]; rfl
    obtain ⟨t, e, ht, he, hobs⟩ := ih hafter
    refine ⟨t, e, ?_, he, ?_⟩
    · rw [runSteps_succ (V.step_of_hasRun s (by rw [ha, Lifecycle.hasRun_started])), ht]
    · rw [hobs, V.observe_move, State.after_pending]
      cases hp : s.pending with
      | nil => rw [fetchInputs_pins, hp]; simp [column, observedStep_idle]
      | cons c cs => rw [State.fetchInputs_cons hp]; rfl

/-- R98: the run of a stand-alone engine, which `col` computes, is the run of the engine in the block. -/
theorem run_eq_stand_alone {col : List Pins → σ → σ × List ω}
    (hcol : ∀ ps r ws, ps.foldl (observedStep (V.nth 0) V.advance V.word) (r, ws) = ((col ps r).1, ws ++ (col ps r).2))
    (n : Nat) (s : State) (a : α) (ha : V.life s = .started a) :
    ∃ t e, runSteps n s = .next t ∧ V.life t = .started e ∧
      (V.observe e).1 = (col (column V.port (s.pending.take n)) (V.observe a).1).1 ∧
      (V.observe e).2 = (V.observe a).2 ++ (col (column V.port (s.pending.take n)) (V.observe a).1).2 := by
  obtain ⟨t, e, ht, he, hobs⟩ := V.run_of_started_take n ha
  exact ⟨t, e, ht, he, Prod.ext_iff.1 (hobs.trans (hcol _ _ _))⟩

/-- Only a reset or a call writes the registers of a running engine (R17). -/
theorem step_writes {s t : State} {a : α} (hstep : step s = .next t) (ha : V.life s = .started a) :
    ∃ e, V.life t = .started e ∧ ((V.observe e).1 ≠ (V.observe a).1 →
      (s.fetchInputs.pins V.port).rst = true ∨ (s.fetchInputs.pins V.port).next = 1#1) := by
  obtain ⟨-, rfl⟩ := step_next_iff.1 hstep
  refine ⟨V.move a (s.fetchInputs.pins V.port), by rw [V.life_after, ha]; rfl, fun hne => ?_⟩
  rw [V.observe_move] at hne
  exact observedStep_writes hne

/-- A run begins with a reset of the engine alone (R129). -/
theorem rst_of_run_begins {s t : State} (hstep : step s = .next t) (hs : (V.life s).isStarted = false)
    (ht : (V.life t).isStarted = true) : (s.fetchInputs.pins V.port).rst = true := by
  obtain ⟨-, rfl⟩ := step_next_iff.1 hstep
  rw [V.life_after, Lifecycle.isStarted_after] at ht
  exact Lifecycle.rst_of_run_begins hs ht

/-- R37, where `out` gives the word on the engine's port, if any. -/
theorem step_appends_out {out : α → Option ω} (hfresh : out V.fresh = none)
    (hmove : ∀ a p, (V.observe (V.move a p)).2 = (V.observe a).2 ++ (out (V.move a p)).toList)
    (s t : State) (e : α) (hstep : step s = .next t) (he : V.life t = .started e) :
    (V.observe e).2 = V.words s ++ (out e).toList ∧ V.words t = (V.observe e).2 := by
  refine ⟨?_, V.words_of_started t e he⟩
  obtain ⟨-, rfl⟩ := step_next_iff.1 hstep
  rw [V.life_after] at he
  obtain ⟨hl, -, rfl⟩ | ⟨a, hl, rfl⟩ := Lifecycle.after_eq_started he
  · rw [V.words_of_unstarted s hl, hfresh, V.observe_fresh]
    rfl
  · rw [V.words_of_started s a hl, hmove]

/-- A run beside an engine `W` that has none goes on, and no operation of `W` is performed (R98, R129). -/
theorem goes_on_beside {β τ υ : Type} (W : EngineView β τ υ) (s : State) (c : CoreInputs) (rest : List CoreInputs)
    (hpending : s.pending = c :: rest) (hrun : (V.life s).hasRun (c.pins V.port).rst = true) :
    ∃ t, step s = .next t ∧ (V.life t).isStarted = true ∧
      (W.life s = .unstarted → (c.pins W.port).rst = false → (c.pins W.port).next = 1#1 → W.life t = .refused) ∧
      (W.life s = .unstarted → (c.pins W.port).rst = false → (c.pins W.port).next = 0#1 → W.life t = .unstarted) ∧
      (W.life s = .refused → W.life t = .refused) := by
  obtain rfl := State.fetchInputs_cons hpending
  refine ⟨s.after, V.step_of_hasRun s hrun, ?_, fun hl hrst hnext => ?_, fun hl hrst hnext => ?_, fun hl => ?_⟩
  · rw [V.life_after, Lifecycle.isStarted_after, hrun]
  · rw [W.life_after, hl, Lifecycle.after_unstarted_of_call _ _ hrst hnext]
  · rw [W.life_after, hl, Lifecycle.after_unstarted_of_wait _ _ hrst hnext]
  · rw [W.life_after, hl, Lifecycle.after_refused]

/-- An engine that is not called keeps from being refused. -/
theorem life_after_idle_ne_refused {s : State} (hs : V.life s ≠ .refused) (hidle : s.fetchInputs.pins V.port = .idle) :
    V.life s.after ≠ .refused := by
  rw [V.life_after, hidle]
  cases hl : V.life s with
  | unstarted => rw [Lifecycle.after_unstarted_of_wait _ _ rfl rfl]; exact nofun
  | started a => exact nofun
  | refused => exact absurd hl hs

/-- R130 for two steps: the engine `V` is reset in the first, the engine `W` in the second. -/
theorem boots_before {β τ υ : Type} (W : EngineView β τ υ) {s : State} {p q : Pins} {ps qs : List Pins}
    (hV : V.life s ≠ .refused) (hW : W.life s ≠ .refused) (hcolV : column V.port s.pending = p :: .idle :: ps)
    (hcolW : column W.port s.pending = .idle :: q :: qs) (hp : p.rst = true) (hq : q.rst = true) :
    ∃ t a b, runSteps 2 s = .next t ∧ V.life t = .started a ∧ (V.observe a).1 = V.nth 0 ∧
      W.life t = .started b ∧ (W.observe b).1 = W.nth 0 := by
  obtain ⟨hreset, hrestV⟩ := column_step hcolV
  obtain ⟨hidle, -⟩ := column_step hrestV
  obtain ⟨hidle', hrestW⟩ := column_step hcolW
  obtain ⟨hreset', -⟩ := column_step hrestW
  obtain ⟨a, ha, hseed⟩ := V.life_after_reset hV (by rw [hreset, hp])
  obtain ⟨b, hb, hseed'⟩ := W.life_after_reset (W.life_after_idle_ne_refused hW hidle') (by rw [hreset', hq])
  have hfirst : step s = .next s.after :=
    V.step_of_hasRun s (by rw [hreset, hp, Lifecycle.hasRun_reset hV])
  have hsecond : step s.after = .next s.after.after := V.step_of_hasRun _ (by rw [ha, Lifecycle.hasRun_started])
  refine ⟨s.after.after, V.move a .idle, b, ?_, ?_, ?_, hb, congrArg Prod.fst hseed'⟩
  · rw [runSteps_succ hfirst, runSteps_one, hsecond]
  · rw [V.life_after, ha, hidle, Lifecycle.after_started]
  · rw [V.observe_move, observedStep_idle, hseed]

end EngineView

/-! ### The obligations -/

/-- Settles O5: each row and each item of a column comes back from its wires, and so do the lists of them. -/
theorem programsComeBackFromTheWires : Obligations.ProgramsComeBackFromTheWires := by
  refine ⟨fun rows h => map_map_eq_self decodeRow_encodeRow h, fun cs => ?_,
    fun e col h => map_map_eq_self decodePins_encodeItem h, fun rows => ⟨?_, ?_⟩⟩
  · exact List.all_eq_true.2 (List.forall_mem_map.2 fun c _ => wf_decodeRow c)
  · rw [encodeProgram, encodeColumn, List.map_map, List.map_map]; rfl
  · rw [encodeProgram, encodeColumn, List.map_map, List.map_map]; rfl

/-- Settles O40: a running engine goes along its column as a stand-alone one does, and holds when the column is at its
end. -/
theorem coreIsTwoStandAloneEngines : Obligations.CoreIsTwoStandAloneEngines :=
  ⟨xs128View.run_eq_stand_alone foldl_observedStep_eq_xs128Column,
    xs128pView.run_eq_stand_alone foldl_observedStep_eq_xs128pColumn⟩

/-- Settles O46: an engine running after a step is fresh, or its wires moved one that met the invariant. -/
theorem stepKeepsTheInvariant : Obligations.StepKeepsTheInvariant := by
  intro s s' h hstep
  obtain ⟨-, rfl⟩ := step_next_iff.1 hstep
  exact ⟨Lifecycle.after_keeps Xs128.fresh_inv Xs128.after_inv h.xs128,
    Lifecycle.after_keeps Xs128p.fresh_inv Xs128p.after_inv h.xs128p⟩

/-- Settles O17: the post-state is that of `NEXT`, and the word is a sum of 64-bit words, which loses its carry. -/
theorem outputSumDropsItsCarry : Obligations.OutputSumDropsItsCarry :=
  fun s b h => ⟨b.regs.output, toNat_add_carryOut _ _, xs128pNextAdvances.2 s b h⟩

/-- Settles O25: a step is refused where no engine has a run in it, which is where neither has begun nor begins. -/
theorem onlyStepsWithoutARunAreRefused : Obligations.OnlyStepsWithoutARunAreRefused := by
  intro s r
  rw [step_refused_iff, Lifecycle.hasRun_eq_false_iff, Lifecycle.hasRun_eq_false_iff, and_assoc]
  rfl

/-- Settles O28, by induction on the number of steps: a step completes beside one running engine, reads one host input and
leaves every running engine running. -/
theorem runsNeverEnd : Obligations.RunsNeverEnd := by
  intro n
  induction n with
  | zero => exact fun s _ => ⟨s, rfl, rfl, fun _ h => h⟩
  | succ n ih =>
    intro s hs
    have hstep : step s = .next s.after := hs.elim (fun h => (step_of_isStarted h).1) fun h => (step_of_isStarted h).1
    have hkeep (e : Engine) (h : s.isStarted e = true) : s.after.isStarted e = true := (step_of_isStarted h).2
    obtain ⟨t, ht, hpending, hrun⟩ := ih s.after (hs.imp (hkeep _) (hkeep _))
    refine ⟨t, (runSteps_succ hstep).trans ht, ?_, fun e h => hrun e (hkeep e h)⟩
    rw [hpending, State.after_pending, List.drop_tail]

/-- Settles O30: a fresh engine has returned nothing, and a running one appends the word on `out`. -/
theorem wordsArriveInOrder : Obligations.WordsArriveInOrder :=
  ⟨xs128View.step_appends_out (out := Xs128.out) rfl Xs128.returned_after,
    xs128pView.step_appends_out (out := Xs128p.out) rfl Xs128p.returned_after⟩

/-- Settles O31: an operation writes its own engine's stage, and the wires of a step that changes registers carry a reset
or a call. -/
theorem onlyNextAndResetWriteRegisters : Obligations.OnlyNextAndResetWriteRegisters := by
  refine ⟨fun i s t h => ?_, fun s t a => xs128View.step_writes, fun s t b => xs128pView.step_writes,
    fun s t h => ⟨xs128View.rst_of_run_begins h, xs128pView.rst_of_run_begins h⟩⟩
  cases hi : i.engine with
  | xs128 =>
    obtain ⟨f, hf, hhold⟩ := exec_of_engine_xs128 hi
    obtain ⟨a, ha, rfl⟩ := State.onXs128_eq_next ((hf s).symm.trans h)
    refine ⟨fun hne => absurd rfl hne, fun _ => rfl, fun hh => ⟨a, f a, ha, rfl, by rw [hhold hh, Xs128.hold_regs]⟩, ?_⟩
    rintro rfl
    cases hi
  | xs128p =>
    obtain ⟨f, hf, hhold⟩ := exec_of_engine_xs128p hi
    obtain ⟨b, hb, rfl⟩ := State.onXs128p_eq_next ((hf s).symm.trans h)
    refine ⟨fun _ => rfl, fun hne => absurd rfl hne, ?_, fun hh => ⟨b, f b, hb, rfl, by rw [hhold hh, Xs128p.hold_regs]⟩⟩
    rintro rfl
    cases hi

/-- Settles O32: the inverse takes the old `w` and its shift off the new word, and undoes the two shifts of `x`. -/
theorem xs128StepIsBijective : Obligations.Xs128StepIsBijective :=
  ⟨Xs128Regs.retreat_advance, Xs128Regs.advance_retreat,
    Function.bijective_iff_has_inverse.2 ⟨_, Xs128Regs.retreat_advance, Xs128Regs.advance_retreat⟩,
    fun _ => rfl, fun r => mt (Xs128Regs.advance_eq_zero_iff r).1, by decide⟩

/-- Settles O33: the inverse takes the old `s1` and its shift off the new word, and undoes the two shifts of `s0`. -/
theorem xs128pStepIsBijective : Obligations.Xs128pStepIsBijective :=
  ⟨Xs128pRegs.retreat_advance, Xs128pRegs.advance_retreat,
    Function.bijective_iff_has_inverse.2 ⟨_, Xs128pRegs.retreat_advance, Xs128pRegs.advance_retreat⟩,
    fun _ => rfl, fun r => mt (Xs128pRegs.advance_eq_zero_iff r).1, by decide⟩

/-- Settles O48: an operation needs a running engine, and an engine with a run goes on beside the other. -/
theorem nothingRunsBeforeTheFirstReset : Obligations.NothingRunsBeforeTheFirstReset :=
  ⟨fun _ _ => exec_of_not_started, xs128pView.goes_on_beside xs128View, xs128View.goes_on_beside xs128pView⟩

/-- Settles O2: the words are those of the two operations of each port, and of the numbers only 0 and 1 are below 2. -/
theorem specWordsDecode : Obligations.SpecWordsDecode := by
  refine ⟨decode_one _, decode_zero _, decode_one _, decode_zero _, fun _ _ => rfl, fun e nbits w hbits hw => ?_,
    fun e nbits hbits => ⟨decodeBits_of_pos e 0 hbits, decodeBits_of_pos e 1 hbits⟩⟩
  rw [decodeBits_of_pos e w hbits, if_neg (Nat.not_lt.2 hw)]

/-- Settles O4: the words of the two operations of a port are its two words. -/
theorem decodeEncodeCommands : Obligations.DecodeEncodeCommands :=
  ⟨decode_encode, fun e c => ⟨engine_decode e c, encode_decode e c⟩⟩

/-- Settles O8: by the law of a step, whose wires are here those of the placed command. -/
theorem placedCommandRunsNext : Obligations.PlacedCommandRunsNext := by
  have hxs128 (s : State) (c : Command) (h : s.Running) :
      ∃ m t, exec (decode .xs128 c) s.popInputs = .next m ∧ exec .xs128pHold m = .next t ∧
        step (s.withCommand .xs128 c) = .next t :=
    stepPerformsWhatTheWiresSelect (s.withCommand .xs128 c) _ _ (hasRun_of_running h _) rfl
  refine ⟨hxs128, fun s c h => ?_, fun s n w i h hi => ?_⟩
  · exact stepPerformsWhatTheWiresSelect (s.withCommand .xs128p c) _ _ (hasRun_of_running h _) rfl
  · rw [eq_decode_of_decodeTableWord hi]
    exact hxs128 s _ h

/-- Settles O9: the wires are idle, and a running engine holds. -/
theorem noHostInputMeansHold : Obligations.NoHostInputMeansHold := by
  refine ⟨fun s a hp ha => ?_, fun s b hp hb => ?_⟩
  · obtain ⟨hstep, hafter⟩ := step_of_xs128 ha
    rw [State.fetchInputs_nil hp] at hafter
    exact ⟨_, hstep, hafter.trans (congrArg _ a.after_idle), congrArg List.tail hp⟩
  · obtain ⟨hstep, hafter⟩ := step_of_xs128p hb
    rw [State.fetchInputs_nil hp] at hafter
    exact ⟨_, hstep, hafter.trans (congrArg _ b.after_idle), congrArg List.tail hp⟩

/-- Settles O14: the operators are those of `BitVec`. -/
theorem operatorsOnNaturals : Obligations.OperatorsOnNaturals := by
  intro n k a b
  refine ⟨?_, ?_, BitVec.toNat_add a b, fun i => BitVec.getLsbD_xor⟩
  · rw [shlW_eq, BitVec.toNat_shiftLeft, Nat.shiftLeft_eq]
  · rw [lshrW_eq, BitVec.toNat_ushiftRight, Nat.shiftRight_eq_div_pow]

/-- Settles O15: the advance is the move down by one register. -/
theorem registersShiftDown : Obligations.RegistersShiftDown :=
  ⟨fun _ a h => ⟨_, a.next, exec_xs128Next_started h, rfl, rfl, rfl, rfl⟩,
    fun _ b h => ⟨_, b.next, exec_xs128pNext_started h, rfl, rfl⟩⟩

/-- Settles O16: the second operation finds the engine running, and `HOLD` of `HOLD` is `HOLD`. -/
theorem nextRepeatsDifferHoldRepeatsDoNot : Obligations.NextRepeatsDifferHoldRepeatsDoNot := by
  refine ⟨fun s a h => ?_, fun s b h => ?_, fun s h => ?_, fun s h => ?_⟩
  · refine ⟨_, _, a.next.next, exec_xs128Next_started h, exec_xs128Next_started rfl, rfl, rfl, ?_⟩
    simp [Xs128Regs.output_eq]
  · refine ⟨_, _, b.next.next, exec_xs128pNext_started h, exec_xs128pNext_started rfl, rfl, rfl, ?_⟩
    simp [Xs128pRegs.output_eq]
  · obtain ⟨a, ha⟩ := Lifecycle.isStarted_iff.1 h
    exact ⟨_, exec_xs128Hold_started ha, exec_xs128Hold_started (a := a.hold) rfl⟩
  · obtain ⟨b, hb⟩ := Lifecycle.isStarted_iff.1 h
    exact ⟨_, exec_xs128pHold_started hb, exec_xs128pHold_started (b := b.hold) rfl⟩

/-- Settles O18: one engine advances from its seed, the other holds. -/
theorem firstOutputsAfterReset : Obligations.FirstOutputsAfterReset :=
  ⟨step_next_iff.2 ⟨.inl rfl, by decide⟩, step_next_iff.2 ⟨.inr rfl, by decide⟩⟩

/-- Settles O19: the words are computed from the seeds. -/
theorem firstTenOutputs : Obligations.FirstTenOutputs :=
  ⟨by decide, by decide⟩

/-- Settles O20: the registers after `NEXT` are computed from the all-ones ones. -/
theorem allOnesStatesWrap : Obligations.AllOnesStatesWrap := by
  refine ⟨fun s a h hones => ⟨_, a.next, exec_xs128Next_started h, rfl, ?_, ?_⟩,
    fun s b h hones => ⟨_, b.next, exec_xs128pNext_started h, rfl, ?_, ?_⟩⟩
  · rw [Xs128.next_regs, hones]; decide
  · rw [Xs128.next_out, hones]; decide
  · rw [Xs128p.next_regs, hones]; decide
  · rw [Xs128p.next_out, hones]; decide

/-- Settles O24: a reset step leaves a seed, and a step that does not call an engine keeps it from being refused and keeps
its registers. -/
theorem oneResetPerEngineBoots : Obligations.OneResetPerEngineBoots := by
  refine ⟨fun s c rest hs hs' hp hrst hrst' => ?_, fun s n n' rest hs hs' hp => ?_, fun s n n' rest hs hs' hp => ?_⟩
  · obtain rfl := State.fetchInputs_cons hp
    obtain ⟨a, ha, hseed⟩ := xs128View.life_after_reset hs hrst
    obtain ⟨b, hb, hseed'⟩ := xs128pView.life_after_reset hs' hrst'
    have hrun : s.xs128.hasRun s.fetchInputs.xs128.rst = true := by rw [hrst, Lifecycle.hasRun_reset hs]
    exact ⟨s.after, a, b, step_next_iff.2 ⟨.inl hrun, rfl⟩, ha, congrArg Prod.fst hseed, hb, congrArg Prod.fst hseed'⟩
  · exact xs128View.boots_before xs128pView hs hs' (congrArg (column .xs128) hp) (congrArg (column .xs128p) hp) rfl rfl
  · obtain ⟨t, b, a, ht, hb, hseed', ha, hseed⟩ :=
      xs128pView.boots_before xs128View hs' hs (congrArg (column .xs128p) hp) (congrArg (column .xs128) hp) rfl rfl
    exact ⟨t, a, b, ht, ha, hseed, hb, hseed'⟩

/-- Settles O27: one engine with a run keeps a step from being refused, and each run in a step is there after it. -/
theorem everyStepCompletes : Obligations.EveryStepCompletes :=
  ⟨fun s h => ⟨s.after, step_next_iff.2 ⟨.inl h.1, rfl⟩, running_after h⟩, fun s h => hasRun_of_running h s.fetchInputs,
    fun s h => ⟨s.after, h.elim (fun h => (step_of_isStarted h).1) fun h => (step_of_isStarted h).1⟩⟩

/-- Settles O45: each operation, and each part of a step, is a function of its own engine's stage. -/
theorem operationsOfTwoEnginesCommute : Obligations.OperationsOfTwoEnginesCommute := by
  refine ⟨fun i j s hne hs => ?_, fun s p q => ⟨_, _, _, perform_xs128 p s, perform_xs128p q _, perform_xs128p q s,
    perform_xs128 p _⟩⟩
  cases hi : i.engine <;> cases hj : j.engine
  case xs128.xs128p => exact exec_comm hi hj hs
  case xs128p.xs128 =>
    obtain ⟨a, b, t, ha, hat, hb, hbt⟩ := exec_comm hj hi hs
    exact ⟨b, a, t, hb, hbt, ha, hat⟩
  case xs128.xs128 | xs128p.xs128p => exact absurd (hi.trans hj.symm) hne

/-- Settles O47: both engines are fresh after reset, and none runs before. -/
theorem resetMeetsTheInvariant : Obligations.ResetMeetsTheInvariant := by
  refine ⟨⟨fun e he => ?_, fun e he => ?_⟩, fun cs => ⟨nofun, nofun⟩⟩
  · cases he
    exact Xs128.fresh_inv
  · cases he
    exact Xs128p.fresh_inv

end Sys2Proof.Machine
